-- ==== Sys2Proof/Word.lean ====
section
/-! DEFINITION. The number types of the 2416 and the fixed-length vector its numbered records stand in.

Bytes, addresses, masks and wrapping counters are bit vectors; initiators, windows, slots and entries are
numbered by `Fin` types whose bounds are those of the manual's "Capacities at a glance". -/

namespace Sys2Proof

/-- A byte of the Management Port, of write data or of read data. -/
abbrev Byte := BitVec 8

/-- A byte address of 40 bits (00_scope, "Address"). -/
abbrev Addr := BitVec 40

/-- One of the 16 initiators. Lane n and gate n belong to initiator n. -/
abbrev Initiator := Fin 16

/-- One of the 16 windows. -/
abbrev WindowNo := Fin 16

/-- One of the 32 Transit Tracker slots. The slot number is the transit tag (R104). -/
abbrev SlotNo := Fin 32

/-- An entry index 0 to 1023 of the Granule Table (R1). -/
abbrev EntryIndex := Fin 1024

/-- A set of initiators as its 16-bit mask, initiator n at bit n (00_scope, "Bytes on the wire"). -/
abbrev ShareSet := BitVec 16

/-- Exactly `n` numbered records of one type: the list and the proof of its length. -/
structure Vec (α : Type) (n : Nat) where
  toList : List α
  len : toList.length = n
  deriving DecidableEq, Repr

/-- All `n` records equal. -/
def Vec.replicate {α : Type} (n : Nat) (a : α) : Vec α n :=
  ⟨List.replicate n a, List.length_replicate⟩

/-- The record numbered `i`. -/
def Vec.get {α : Type} {n : Nat} (v : Vec α n) (i : Fin n) : α :=
  v.toList.get ⟨i.val, by rw [v.len]; exact i.isLt⟩

/-- The same records with the one numbered `i` replaced. -/
def Vec.set {α : Type} {n : Nat} (v : Vec α n) (i : Fin n) (a : α) : Vec α n :=
  ⟨v.toList.set i.val a, by rw [List.length_set]; exact v.len⟩

/-- Each record changed by `f`. -/
def Vec.map {α β : Type} {n : Nat} (f : α → β) (v : Vec α n) : Vec β n :=
  ⟨v.toList.map f, by rw [List.length_map]; exact v.len⟩

/-- How many records satisfy `p`. -/
def Vec.count {α : Type} {n : Nat} (p : α → Bool) (v : Vec α n) : Nat :=
  v.toList.countP p

end Sys2Proof
end

