-- ==== Sys2Proof/Config.lean ====
section
/-! DEFINITION. The fixed quantities of the part, and the values its manual leaves open. -/

namespace Sys2Proof.Config

/-- The Event Queue holds at most 64 records (R140). -/
def queueCapacity : Nat := 64

/-- RESTART's drain limit: 10,000 µs from the stop time (R192). -/
def drainLimit : Nat := 10000

/-- The interval timer counts in milliseconds of 1000 ticks of the 1 µs time base (R128). -/
def ticksPerMillisecond : Nat := 1000

/-- The elapsed count of the interval timer stops rising here (R128). -/
def elapsedMax : Nat := 65535

/-- The lost tally saturates here (R146). -/
def lostMax : Nat := 65535

/-- The trip count and the repeat count saturate here (R85, R145). -/
def countMax : Nat := 255

/-- The largest granule number of a key (R5, R169). -/
def granuleMax : Nat := 1048575

/-- FREE VALUE. R163: one or more filler bytes precede a reply, and "the number of filler bytes is not fixed".
`extraFiller n` is how many filler bytes beyond the first the n-th reply is given at least; nothing constrains it
(assumption log 6). -/
opaque extraFiller : Nat → Nat

end Sys2Proof.Config
end

