-- ==== Sys2Proof/Syntax.lean ====
section
/-! DEFINITION. The commands of the block: one constructor of `Instr` per row of spec/opcode_table.json, with the
operands the row's rule gives it, and the named values and images those operands are made of.

The management commands carry their arguments as they stand on the wire (R198, R199): a byte that names no value can
be sent, and is refused BAD_ARGUMENT by the part, not by the type. -/

namespace Sys2Proof

/-- The kind of an access (R102). -/
inductive Access where
  | read
  | write
  deriving DecidableEq, Repr

/-- The status of a response (R103, R105). -/
inductive RespStatus where
  | okay
  | error
  deriving DecidableEq, Repr

/-- An upstream request (R102). `data` and `enables` hold one item per byte of a WRITE, and nothing for a READ. -/
structure Request where
  kind : Access
  initiator : Initiator
  tag : Byte
  addr : Addr
  length : Nat
  data : List Byte
  enables : List Bool
  deriving DecidableEq, Repr

/-- The four window modes (R36), coded 0 to 3 in this order in a window image (R199). -/
inductive WindowMode where
  | opened
  | learn
  | fixed
  | closed
  deriving DecidableEq, Repr

/-- The two response styles (R72). -/
inductive Style where
  | quiet
  | loud
  deriving DecidableEq, Repr

/-- What a due claim does when its bucket is full (R64). -/
inductive FullAction where
  | passUnowned
  | refuse
  deriving DecidableEq, Repr

/-- The outside action (R46). -/
inductive OutsideAction where
  | pass
  | refuse
  deriving DecidableEq, Repr

/-- The four entry kinds (R5), coded 0 to 3 in this order in an entry image (R199). -/
inductive EntryKind where
  | free
  | claimed
  | pinned
  | barred
  deriving DecidableEq, Repr

/-- A window image as SET_WINDOW carries it (R199, 15 bytes). -/
structure WindowImage where
  enabled : Bool
  mode : WindowMode
  style : Style
  learnStrict : Bool
  fullAction : FullAction
  reportLearning : Bool
  reportRelease : Bool
  exponent : Byte
  ageLimit : Byte
  base : Addr
  size : BitVec 24
  fill : BitVec 32
  deriving DecidableEq, Repr

/-- An entry image as INSERT_ENTRY and UPDATE_ENTRY carry it (R199, 10 bytes). -/
structure EntryImage where
  kind : EntryKind
  strict : Bool
  touched : Bool
  pending : Bool
  age : BitVec 3
  window : WindowNo
  owner : Initiator
  granule : BitVec 24
  share : ShareSet
  claimSlot : BitVec 5
  index : BitVec 16
  deriving DecidableEq, Repr

/-- An outside image as SET_OUTSIDE carries it (R199, 5 bytes). -/
structure OutsideImage where
  action : OutsideAction
  style : Style
  fill : BitVec 32
  deriving DecidableEq, Repr

/-- The commands of the block, in the order of spec/opcode_table.json. -/
inductive Instr where
  /-- COLD_RESET (R126): the cold reset input. -/
  | coldReset
  /-- PRESENT_REQUEST (R101): an initiator presents a whole request on its lane. -/
  | presentRequest (request : Request)
  /-- ADMISSION (R53). -/
  | admission
  /-- SEND (R112): the memory controller can accept a request. -/
  | send
  /-- DOWNSTREAM_RESPONSE (R105): transit tag, status and the read data the response carries. -/
  | downstreamResponse (tag : SlotNo) (status : RespStatus) (data : List Byte)
  /-- DEADLINE_EXPIRY (R118): the time base reaches the deadline of this slot. -/
  | deadlineExpiry (slot : SlotNo)
  /-- FORCED_TIMEOUT (R119): RESTART's drain forces the timeout of this slot. -/
  | forcedTimeout (slot : SlotNo)
  /-- DEPARTURE (R122): the interconnect can take a response. -/
  | departure
  /-- INTERVAL_TIMER_EXPIRY (R130). -/
  | intervalTimerExpiry
  /-- SWEEP_STEP (R132). -/
  | sweepStep
  /-- PURGE_STEP (R180). -/
  | purgeStep
  /-- REOWN_STEP (R183). -/
  | reownStep
  /-- WALK_END_ABORTED (R185). -/
  | walkEndAborted
  /-- DRAIN_LIMIT (R192): the time base reaches the stop time plus 10,000 µs. -/
  | drainLimit
  /-- CLEAR_STEP (R193). -/
  | clearStep
  /-- RESUME_STEP (R194). -/
  | resumeStep
  /-- SEL_RISE (R165). -/
  | selRise
  /-- CHECK_MISMATCH (R162): the frame with this code had a check byte that does not match. -/
  | checkMismatch (code : Byte)
  /-- UNKNOWN_COMMAND (R164): a code byte that names no command. -/
  | unknownCommand (code : Byte)
  /-- SET_WINDOW (R40): window number, window image. -/
  | setWindow (window : Byte) (image : WindowImage)
  /-- ENABLE_WINDOW (R43, R44): window number, choice. -/
  | enableWindow (window : Byte) (choice : Byte)
  /-- READ_WINDOW (R45): window number. -/
  | readWindow (window : Byte)
  /-- SET_OUTSIDE (R47): outside image. -/
  | setOutside (image : OutsideImage)
  /-- SET_GATE (R83): initiator, state. -/
  | setGate (initiator : Byte) (state : Byte)
  /-- SET_GATE_CONFIG (R87): initiator, privileged, trip threshold, budget on, exhaust action. -/
  | setGateConfig (initiator : Byte) (privileged : Byte) (threshold : Byte) (budgetOn : Byte) (exhaust : Byte)
  /-- LOAD_BUDGET (R94): initiator, remaining, next. -/
  | loadBudget (initiator : Byte) (remaining : BitVec 32) (next : BitVec 32)
  /-- READ_GATE (R99): initiator. -/
  | readGate (initiator : Byte)
  /-- READ_COUNTERS (R98): initiator, clear choice. -/
  | readCounters (initiator : Byte) (clear : Byte)
  /-- INSERT_ENTRY (R23): entry image. -/
  | insertEntry (image : EntryImage)
  /-- UPDATE_ENTRY (R25): entry image, convert choice. -/
  | updateEntry (image : EntryImage) (convert : Byte)
  /-- DELETE_ENTRY (R27): key. -/
  | deleteEntry (window : Byte) (granule : BitVec 24)
  /-- FIND_ENTRY (R28): key. -/
  | findEntry (window : Byte) (granule : BitVec 24)
  /-- READ_ENTRY (R29): entry index. -/
  | readEntry (index : BitVec 16)
  /-- SET_TIMERS (R113, R129): response timeout in µs, sweep interval in ms. -/
  | setTimers (timeout : BitVec 16) (interval : BitVec 16)
  /-- FETCH_EVENTS (R149): count. -/
  | fetchEvents (count : Byte)
  /-- ACK_EVENTS (R152): sequence number. -/
  | ackEvents (sequence : BitVec 16)
  /-- STATUS (R173). -/
  | status
  /-- REPEAT_REPLY (R167). -/
  | repeatReply
  /-- ABORT (R185). -/
  | abort
  /-- PURGE (R179): window filter, owner filter, kind set. -/
  | purge (windowFilter : Byte) (ownerFilter : Byte) (kindSet : Byte)
  /-- REOWN (R182): from, to, window filter. -/
  | reown (source : Byte) (target : Byte) (windowFilter : Byte)
  /-- SWEEP_NOW (R188). -/
  | sweepNow
  /-- RESTART (R190). -/
  | restart
  /-- SEL_FALL (R160). -/
  | selFall
  /-- SCK_CYCLE (R159): the bit on MDI. -/
  | sckCycle (mdi : Bool)
  /-- TIMER_MILLISECOND_BOUNDARY (R128). -/
  | timerMillisecondBoundary
  deriving DecidableEq, Repr

end Sys2Proof
end

