-- ==== Sys2Proof/Decode.lean ====
section
/-! DEFINITION. The wire side of the management commands (R197, R198, R199): byte order, the CRC-8 remainder, the
command codes, the argument bytes of each command in both directions, and `decodeTableWord`.

The opcode table gives no row any bits, so no word spells a command of the table (assumption log 1). The
frame receiver's own decoding, from a code byte and argument bytes to a command, is `decodeArgs`. -/

namespace Sys2Proof

/-! ### Bytes and bits -/

/-- `x` as `n` bytes, most significant first (00_scope, "Bytes on the wire"). -/
def bytesOf : Nat → Nat → List Byte
  | 0, _ => []
  | n + 1, x => BitVec.ofNat 8 (x / 256 ^ n) :: bytesOf n x

/-- The number whose bytes are these, most significant first. -/
def natOf (bs : List Byte) : Nat :=
  bs.foldl (fun x b => x * 256 + b.toNat) 0

/-- The eight bits of a byte, most significant first (R159). -/
def bitsOf (b : Byte) : List Bool :=
  [b.getLsbD 7, b.getLsbD 6, b.getLsbD 5, b.getLsbD 4, b.getLsbD 3, b.getLsbD 2, b.getLsbD 1, b.getLsbD 0]

/-- The byte whose bits arrived in this order, most significant first. -/
def byteOf (bits : List Bool) : Byte :=
  BitVec.ofNat 8 (bits.foldl (fun x b => 2 * x + b.toNat) 0)

/-- A flag at bit `n` of a byte. -/
def flagAt (n : Nat) (b : Bool) : Nat := if b then 2 ^ n else 0

/-! ### The check byte -/

/-- One of R197's eight shifts: bit 7 shifted out, 0x07 exclusive-ORed in when it was 1. -/
def crcShift (r : Byte) : Byte :=
  if r.getLsbD 7 then (r <<< 1) ^^^ 0x07#8 else r <<< 1

/-- R197's eight shifts after a byte has been exclusive-ORed into the remainder. -/
def crcByte (r b : Byte) : Byte :=
  Nat.repeat crcShift 8 (r ^^^ b)

/-- R197: the CRC-8 remainder of a string of bytes, from initial value 0. -/
def crc8 (bytes : List Byte) : Byte :=
  bytes.foldl crcByte 0#8

/-! ### Command codes -/

/-- The 24 management commands (R198). -/
inductive Command where
  | setWindow | enableWindow | readWindow | setOutside
  | setGate | setGateConfig | loadBudget | readGate | readCounters
  | insertEntry | updateEntry | deleteEntry | findEntry | readEntry
  | setTimers
  | fetchEvents | ackEvents
  | status | repeatReply
  | purge | reown | sweepNow | restart | abort
  deriving DecidableEq, Repr

/-- R198: the code byte of a command. -/
def Command.code : Command → Byte
  | .setWindow => 0x10
  | .enableWindow => 0x11
  | .readWindow => 0x12
  | .setOutside => 0x13
  | .setGate => 0x20
  | .setGateConfig => 0x21
  | .loadBudget => 0x22
  | .readGate => 0x23
  | .readCounters => 0x24
  | .insertEntry => 0x30
  | .updateEntry => 0x31
  | .deleteEntry => 0x32
  | .findEntry => 0x33
  | .readEntry => 0x34
  | .setTimers => 0x40
  | .fetchEvents => 0x50
  | .ackEvents => 0x51
  | .status => 0x60
  | .repeatReply => 0x61
  | .purge => 0x70
  | .reown => 0x71
  | .sweepNow => 0x72
  | .restart => 0x73
  | .abort => 0x74

/-- R198: how many argument bytes follow the code. -/
def Command.argBytes : Command → Nat
  | .setWindow => 16
  | .enableWindow => 2
  | .readWindow => 1
  | .setOutside => 5
  | .setGate => 2
  | .setGateConfig => 5
  | .loadBudget => 9
  | .readGate => 1
  | .readCounters => 2
  | .insertEntry => 10
  | .updateEntry => 11
  | .deleteEntry => 4
  | .findEntry => 4
  | .readEntry => 2
  | .setTimers => 4
  | .fetchEvents => 1
  | .ackEvents => 2
  | .status => 0
  | .repeatReply => 0
  | .purge => 3
  | .reown => 3
  | .sweepNow => 0
  | .restart => 0
  | .abort => 0

/-- Every command, for looking a code up. -/
def Command.all : List Command :=
  [.setWindow, .enableWindow, .readWindow, .setOutside,
   .setGate, .setGateConfig, .loadBudget, .readGate, .readCounters,
   .insertEntry, .updateEntry, .deleteEntry, .findEntry, .readEntry,
   .setTimers, .fetchEvents, .ackEvents, .status, .repeatReply,
   .purge, .reown, .sweepNow, .restart, .abort]

/-- R161: the command a code byte names, or none for an unknown code. -/
def Command.ofCode (code : Byte) : Option Command :=
  Command.all.find? (fun c => c.code == code)

/-! ### Images -/

/-- R199: the four window modes coded 0 to 3. -/
def WindowMode.code : WindowMode → Nat
  | .opened => 0
  | .learn => 1
  | .fixed => 2
  | .closed => 3

/-- The window mode of a two-bit code. -/
def WindowMode.ofCode (n : Nat) : WindowMode :=
  if n % 4 = 0 then .opened else if n % 4 = 1 then .learn else if n % 4 = 2 then .fixed else .closed

/-- R199: the four entry kinds coded 0 to 3. -/
def EntryKind.code : EntryKind → Nat
  | .free => 0
  | .claimed => 1
  | .pinned => 2
  | .barred => 3

/-- The entry kind of a two-bit code. -/
def EntryKind.ofCode (n : Nat) : EntryKind :=
  if n % 4 = 0 then .free else if n % 4 = 1 then .claimed else if n % 4 = 2 then .pinned else .barred

/-- R199: the 15 bytes of a window image. -/
def WindowImage.bytes (m : WindowImage) : List Byte :=
  BitVec.ofNat 8 (flagAt 7 m.enabled + 32 * m.mode.code + flagAt 4 (m.style == .loud) + flagAt 3 m.learnStrict
      + flagAt 2 (m.fullAction == .refuse) + flagAt 1 m.reportLearning + flagAt 0 m.reportRelease)
    :: m.exponent :: m.ageLimit
    :: (bytesOf 5 m.base.toNat ++ bytesOf 3 m.size.toNat ++ bytesOf 4 m.fill.toNat)

/-- R199: the window image that 15 bytes spell. -/
def WindowImage.ofBytes (bs : List Byte) : WindowImage :=
  let b := bs.getD 0 0
  { enabled := b.getLsbD 7
    mode := .ofCode (b.toNat / 32)
    style := if b.getLsbD 4 then .loud else .quiet
    learnStrict := b.getLsbD 3
    fullAction := if b.getLsbD 2 then .refuse else .passUnowned
    reportLearning := b.getLsbD 1
    reportRelease := b.getLsbD 0
    exponent := bs.getD 1 0
    ageLimit := bs.getD 2 0
    base := BitVec.ofNat 40 (natOf ((bs.drop 3).take 5))
    size := BitVec.ofNat 24 (natOf ((bs.drop 8).take 3))
    fill := BitVec.ofNat 32 (natOf ((bs.drop 11).take 4)) }

/-- R199: the 10 bytes of an entry image. -/
def EntryImage.bytes (m : EntryImage) : List Byte :=
  BitVec.ofNat 8 (64 * m.kind.code + flagAt 5 m.strict + flagAt 4 m.touched + flagAt 3 m.pending + m.age.toNat)
    :: BitVec.ofNat 8 (16 * m.window.val + m.owner.val)
    :: (bytesOf 3 m.granule.toNat ++ bytesOf 2 m.share.toNat
        ++ (BitVec.ofNat 8 m.claimSlot.toNat :: bytesOf 2 m.index.toNat))

/-- R199: the entry image that 10 bytes spell. Bits 7 to 5 of byte 7 hold no field. -/
def EntryImage.ofBytes (bs : List Byte) : EntryImage :=
  let b := bs.getD 0 0
  let k := bs.getD 1 0
  { kind := .ofCode (b.toNat / 64)
    strict := b.getLsbD 5
    touched := b.getLsbD 4
    pending := b.getLsbD 3
    age := BitVec.ofNat 3 b.toNat
    window := Fin.ofNat 16 (k.toNat / 16)
    owner := Fin.ofNat 16 k.toNat
    granule := BitVec.ofNat 24 (natOf ((bs.drop 2).take 3))
    share := BitVec.ofNat 16 (natOf ((bs.drop 5).take 2))
    claimSlot := BitVec.ofNat 5 (bs.getD 7 0).toNat
    index := BitVec.ofNat 16 (natOf ((bs.drop 8).take 2)) }

/-- R199: the 5 bytes of an outside image. -/
def OutsideImage.bytes (m : OutsideImage) : List Byte :=
  BitVec.ofNat 8 (flagAt 1 (m.action == .refuse) + flagAt 0 (m.style == .loud)) :: bytesOf 4 m.fill.toNat

/-- R199: the outside image that 5 bytes spell. Bits 7 to 2 of byte 0 hold no field (assumption log 7). -/
def OutsideImage.ofBytes (bs : List Byte) : OutsideImage :=
  let b := bs.getD 0 0
  { action := if b.getLsbD 1 then .refuse else .pass
    style := if b.getLsbD 0 then .loud else .quiet
    fill := BitVec.ofNat 32 (natOf ((bs.drop 1).take 4)) }

/-! ### Frames -/

/-- The command and argument bytes of the frame that sends a management command; none for the other happenings. -/
def frameOf : Instr → Option (Command × List Byte)
  | .setWindow w m => some (.setWindow, w :: m.bytes)
  | .enableWindow w c => some (.enableWindow, [w, c])
  | .readWindow w => some (.readWindow, [w])
  | .setOutside m => some (.setOutside, m.bytes)
  | .setGate i g => some (.setGate, [i, g])
  | .setGateConfig i p t b x => some (.setGateConfig, [i, p, t, b, x])
  | .loadBudget i r n => some (.loadBudget, i :: (bytesOf 4 r.toNat ++ bytesOf 4 n.toNat))
  | .readGate i => some (.readGate, [i])
  | .readCounters i c => some (.readCounters, [i, c])
  | .insertEntry m => some (.insertEntry, m.bytes)
  | .updateEntry m c => some (.updateEntry, m.bytes ++ [c])
  | .deleteEntry w g => some (.deleteEntry, w :: bytesOf 3 g.toNat)
  | .findEntry w g => some (.findEntry, w :: bytesOf 3 g.toNat)
  | .readEntry i => some (.readEntry, bytesOf 2 i.toNat)
  | .setTimers t i => some (.setTimers, bytesOf 2 t.toNat ++ bytesOf 2 i.toNat)
  | .fetchEvents n => some (.fetchEvents, [n])
  | .ackEvents n => some (.ackEvents, bytesOf 2 n.toNat)
  | .status => some (.status, [])
  | .repeatReply => some (.repeatReply, [])
  | .abort => some (.abort, [])
  | .purge w o k => some (.purge, [w, o, k])
  | .reown f t w => some (.reown, [f, t, w])
  | .sweepNow => some (.sweepNow, [])
  | .restart => some (.restart, [])
  | .coldReset | .presentRequest _ | .admission | .send | .downstreamResponse _ _ _ | .deadlineExpiry _
  | .forcedTimeout _ | .departure | .intervalTimerExpiry | .sweepStep | .purgeStep | .reownStep | .walkEndAborted
  | .drainLimit | .clearStep | .resumeStep | .selRise | .checkMismatch _ | .unknownCommand _ | .selFall | .sckCycle _
  | .timerMillisecondBoundary => none

/-- The management command that a command code and its argument bytes spell; none when the number of bytes is not
the code's (R198). -/
def decodeArgs (c : Command) (bs : List Byte) : Option Instr :=
  if bs.length = c.argBytes then
    let b (n : Nat) : Byte := bs.getD n 0
    some (match c with
      | .setWindow => .setWindow (b 0) (.ofBytes (bs.drop 1))
      | .enableWindow => .enableWindow (b 0) (b 1)
      | .readWindow => .readWindow (b 0)
      | .setOutside => .setOutside (.ofBytes bs)
      | .setGate => .setGate (b 0) (b 1)
      | .setGateConfig => .setGateConfig (b 0) (b 1) (b 2) (b 3) (b 4)
      | .loadBudget =>
        .loadBudget (b 0) (BitVec.ofNat 32 (natOf ((bs.drop 1).take 4))) (BitVec.ofNat 32 (natOf ((bs.drop 5).take 4)))
      | .readGate => .readGate (b 0)
      | .readCounters => .readCounters (b 0) (b 1)
      | .insertEntry => .insertEntry (.ofBytes bs)
      | .updateEntry => .updateEntry (.ofBytes bs) (b 10)
      | .deleteEntry => .deleteEntry (b 0) (BitVec.ofNat 24 (natOf ((bs.drop 1).take 3)))
      | .findEntry => .findEntry (b 0) (BitVec.ofNat 24 (natOf ((bs.drop 1).take 3)))
      | .readEntry => .readEntry (BitVec.ofNat 16 (natOf bs))
      | .setTimers => .setTimers (BitVec.ofNat 16 (natOf (bs.take 2))) (BitVec.ofNat 16 (natOf ((bs.drop 2).take 2)))
      | .fetchEvents => .fetchEvents (b 0)
      | .ackEvents => .ackEvents (BitVec.ofNat 16 (natOf bs))
      | .status => .status
      | .repeatReply => .repeatReply
      | .purge => .purge (b 0) (b 1) (b 2)
      | .reown => .reown (b 0) (b 1) (b 2)
      | .sweepNow => .sweepNow
      | .restart => .restart
      | .abort => .abort)
  else none

/-- The command that a word spells by the opcode table's bits. No row of the table has any bits, so no word spells
one (assumption log 1). -/
def decodeTableWord (_nbits _w : Nat) : Option Instr := none

end Sys2Proof
end

