-- ==== Sys2Proof/Machine/State.lean ====
section
/-! DEFINITION. The state of the 2416, block by block, as plain data; its cold value; and the reasons a step can stop.

Fields the manual names stand under the name of the block that holds them (00_scope, "Block diagram"). Fields that are
the model's own say so and name their assumption log entry. ATTN, admission stopped, the queue depth and the occupied
count are not stored: each is what its rule computes from the state (`State.attn` and its neighbours in Ops). -/

namespace Sys2Proof.Machine

/-! ### Window Map -/

/-- A window record (R32). -/
structure Window where
  enabled : Bool
  base : Addr
  /-- In granules, 0 to 1,048,576. -/
  size : Nat
  /-- The granule exponent k, 12 to 21. -/
  exponent : Nat
  mode : WindowMode
  style : Style
  fill : BitVec 32
  /-- 1 to 7 untouched sweeps. -/
  ageLimit : Nat
  learnStrict : Bool
  fullAction : FullAction
  reportLearning : Bool
  reportRelease : Bool
  deriving DecidableEq, Repr

/-- R34: the cold window record. -/
def Window.cold : Window :=
  { enabled := false, base := 0, size := 0, exponent := 12, mode := .opened, style := .quiet, fill := 0, ageLimit := 1,
    learnStrict := false, fullAction := .passUnowned, reportLearning := false, reportRelease := false }

/-- The outside policy record (R46). -/
structure OutsidePolicy where
  action : OutsideAction
  style : Style
  fill : BitVec 32
  deriving DecidableEq, Repr

/-- R46: the cold outside policy. -/
def OutsidePolicy.cold : OutsidePolicy := { action := .pass, style := .quiet, fill := 0 }

/-! ### Granule Table -/

/-- A key (window, granule number). -/
structure Key where
  window : WindowNo
  granule : Nat
  deriving DecidableEq, Repr

/-- What a CLAIMED entry holds beside its key (R5). It is pending exactly when it has a claim slot. -/
structure Claim where
  owner : Initiator
  share : ShareSet
  strict : Bool
  touched : Bool
  age : Nat
  claimSlot : Option SlotNo
  deriving DecidableEq, Repr

/-- What a PINNED entry holds beside its key (R5). -/
structure Pin where
  owner : Initiator
  share : ShareSet
  strict : Bool
  deriving DecidableEq, Repr

/-- An entry of the table (R5). Each kind holds the fields R5 says are present for it, and no others. -/
inductive Entry where
  | free
  | claimed (key : Key) (claim : Claim)
  | pinned (key : Key) (pin : Pin)
  | barred (key : Key)
  deriving DecidableEq, Repr

/-! ### Gate File -/

/-- The four gate states (R82), coded 0 to 3 in this order (R198). -/
inductive GateState where
  | opened
  | listen
  | held
  | shut
  deriving DecidableEq, Repr

/-- The exhaust action of a gate (R90). -/
inductive ExhaustAction where
  | refuse
  | hold
  deriving DecidableEq, Repr

/-- A gate record (R79). -/
structure Gate where
  state : GateState
  privileged : Bool
  tripThreshold : Nat
  tripCount : Nat
  budgetOn : Bool
  exhaust : ExhaustAction
  remaining : Nat
  next : Nat
  admitted : BitVec 32
  refused : BitVec 32
  claims : BitVec 32
  deriving DecidableEq, Repr

/-- R80: the cold gate record. -/
def Gate.cold : Gate :=
  { state := .opened, privileged := false, tripThreshold := 0, tripCount := 0, budgetOn := false, exhaust := .refuse,
    remaining := 0, next := 0, admitted := 0, refused := 0, claims := 0 }

/-! ### Transit Tracker and ports -/

/-- The access a slot holds: what R67 copies from the request and the slot keeps until it is freed. -/
structure SlotAccess where
  initiator : Initiator
  tag : Byte
  kind : Access
  addr : Addr
  length : Nat
  deriving DecidableEq, Repr

/-- The write data and byte enables of a slot; both empty for a READ and after sending (R106). -/
structure Payload where
  data : List Byte
  enables : List Bool
  deriving DecidableEq, Repr

/-- The response a slot holds, or one that leaves (R106). -/
structure Response where
  status : RespStatus
  data : List Byte
  deriving DecidableEq, Repr

/-- A tracker slot (R106), each state with the fields that can be other than none or no in it (R107): a claim link
only before memory has answered (R15), a deadline only while OUTSTANDING (R113), a response only while READY, and the
orphan mark yes in ORPHANED. Freeing makes every field none. -/
inductive Slot where
  | free
  | queued (access : SlotAccess) (payload : Payload) (link : Option EntryIndex)
  | outstanding (access : SlotAccess) (link : Option EntryIndex) (deadline : Option Nat)
  | ready (access : SlotAccess) (payload : Payload) (response : Response) (orphan : Bool)
  | orphaned (access : SlotAccess)
  deriving DecidableEq, Repr

/-- The upstream response of R103 as it leaves for its initiator. -/
structure UpstreamResponse where
  initiator : Initiator
  tag : Byte
  status : RespStatus
  data : List Byte
  deriving DecidableEq, Repr

/-- The downstream request of R104 as it is handed to the memory controller. -/
structure DownstreamRequest where
  transitTag : SlotNo
  kind : Access
  addr : Addr
  length : Nat
  data : List Byte
  enables : List Bool
  deriving DecidableEq, Repr

/-! ### Aging Sweep -/

/-- The state of the Aging Sweep (R128), with the place of the timer's last millisecond boundary. -/
structure Sweep where
  /-- Sweep interval in ms, 0 for none. -/
  interval : Nat
  /-- Interval timer: elapsed milliseconds since its last restart. -/
  elapsed : Nat
  running : Bool
  /-- Index of the next step, 1024 while no sweep runs. -/
  cursor : Nat
  pending : Bool
  released : Nat
  /-- Model's own: the time of the timer's last millisecond boundary or restart (assumption log 3). -/
  boundary : Nat
  /-- Model's own: the timer's last millisecond boundary is one at which it expires, and that expiry is still to be
  taken (R130; assumption log 3). -/
  expiryDue : Bool
  deriving DecidableEq, Repr

/-- R128: the cold Aging Sweep, its timer restarted at time `now`. -/
def Sweep.cold (now : Nat) : Sweep :=
  { interval := 0, elapsed := 0, running := false, cursor := 1024, pending := false, released := 0, boundary := now,
    expiryDue := false }

/-! ### Event Queue -/

/-- The nine violation reasons (R141). -/
inductive Reason where
  | gateShut
  | outside
  | closedWindow
  | unlisted
  | barred
  | notOwner
  | notSharer
  | tableFull
  | budget
  deriving DecidableEq, Repr

/-- The two frame-fault reasons (R165). -/
inductive FaultReason where
  | short
  | unknownLength
  deriving DecidableEq, Repr

/-- How a long command ended (R187). -/
inductive Completion where
  | complete
  | aborted
  deriving DecidableEq, Repr

/-- The long commands that end with COMMAND_DONE (R187). -/
inductive DoneCommand where
  | purge
  | reown
  | sweep
  deriving DecidableEq, Repr

/-- The three gate counters (R96), coded 0 to 2 in COUNTER_HIGH (R97). -/
inductive GateCounter where
  | admitted
  | refused
  | claims
  deriving DecidableEq, Repr

/-- An event (R142): each kind with the fields its row names, and no others. -/
inductive Event where
  | violation (initiator : Initiator) (window : Option WindowNo) (addr : Addr) (access : Access) (reason : Reason)
      (audited : Bool)
  | malformed (initiator : Initiator) (addr : Addr) (length : Nat)
  | learned (initiator : Initiator) (window : WindowNo) (addr : Addr) (entry : EntryIndex)
  | learnFull (initiator : Initiator) (window : WindowNo) (addr : Addr)
  | claimVoided (initiator : Initiator) (window : WindowNo) (addr : Addr) (entry : EntryIndex)
  | released (window : WindowNo) (entry : EntryIndex) (granule : Nat)
  | gateTripped (initiator : Initiator)
  | budgetReloaded (initiator : Initiator) (remaining : Nat)
  | budgetExhausted (initiator : Initiator)
  | counterHigh (initiator : Initiator) (counter : GateCounter)
  | responseTimeout (initiator : Initiator) (addr : Addr) (slot : SlotNo)
  | lateResponse (slot : SlotNo)
  | strayResponse (tag : SlotNo)
  | frameFault (reason : FaultReason)
  | commandDone (command : DoneCommand) (reason : Completion) (count : Nat)
  | restarted (claimsFreed : Nat)
  | lost (tally : Nat)
  deriving DecidableEq, Repr

/-- A record of the Event Queue (R141): its event's fields, sequence, repeat count and fetched mark. -/
structure Record where
  sequence : BitVec 16
  event : Event
  repeats : Nat
  fetched : Bool
  deriving DecidableEq, Repr

/-- The state of the Event Queue (R140), records oldest first. -/
structure EventQueue where
  records : List Record
  nextSequence : BitVec 16
  lostTally : Nat
  deriving DecidableEq, Repr

/-- R140: the cold Event Queue. -/
def EventQueue.cold : EventQueue := { records := [], nextSequence := 0, lostTally := 0 }

/-! ### Management Port -/

/-- The status codes (08, "Status codes"). -/
inductive Status where
  | done
  | accepted
  | busy
  | restarting
  | badCheck
  | unknownCommand
  | badArgument
  | range
  | duplicate
  | bucketFull
  | notFound
  | pending
  | overlap
  | windowInUse
  | noSuchRecord
  | notFetched
  | notAbortable
  | noLongCommand
  | noReply
  deriving DecidableEq, Repr

/-- A reply: its status and its result bytes (R163). -/
structure Reply where
  status : Status
  results : List Byte
  deriving DecidableEq, Repr

/-- The last reply (R166): the code it answered, its status and its result bytes. -/
structure StoredReply where
  code : Byte
  status : Status
  results : List Byte
  deriving DecidableEq, Repr

/-- Where REPLYING stands (R163). -/
inductive ReplyPhase where
  /-- Filler: whole filler bytes still owed, bits of the present one already driven, and the reply once it is
  ready. -/
  | filler (owed : Nat) (bit : Nat) (ready : Option Reply)
  /-- The start byte, status, results and reply check byte: the bits still to be driven. -/
  | sending (bits : List Bool)
  deriving DecidableEq, Repr

/-- The frame receiver (R160). `bits` are the bits of the present byte received so far, first first. -/
inductive Receiver where
  | idle
  | code (bits : List Bool)
  | arguments (command : Command) (received : List Byte) (bits : List Bool)
  | check (command : Command) (received : List Byte) (bits : List Bool)
  | replying (phase : ReplyPhase)
  | trailing
  deriving DecidableEq, Repr

/-- The Management Port: its lines, its frame receiver and its last reply (R159, R160, R166). -/
structure Port where
  /-- SEL, active low: a frame runs while it is low. -/
  selHigh : Bool
  receiver : Receiver
  /-- The bit MDO drives, none where R160 gives it nothing to drive. -/
  mdo : Option Bool
  lastReply : Option StoredReply
  /-- Model's own: the reply made most recently, stored or not (assumption log 4). -/
  replyMade : Option Reply
  /-- Model's own: how many frames have entered REPLYING, the argument of the free filler count (assumption log 6). -/
  replyCount : Nat
  deriving DecidableEq, Repr

/-- R160, R166: the cold port, at this level of the SEL line. -/
def Port.cold (selHigh : Bool) (replyCount : Nat) : Port :=
  { selHigh := selHigh, receiver := .idle, mdo := none, lastReply := none, replyMade := none, replyCount := replyCount }

/-! ### Command Unit -/

/-- A checked frame that the port has passed on and the Command Unit has not yet taken (R162). -/
inductive PassedOn where
  /-- The check byte matched: this command is to be judged. -/
  | command (c : Instr)
  /-- The check byte did not match: the frame with this code is to be answered BAD_CHECK. -/
  | badCheck (code : Byte)
  deriving DecidableEq, Repr

/-- The kinds of the long-operation record (R176), coded 0 to 4 in STATUS (R198). -/
inductive LongKind where
  | none
  | purge
  | reown
  | sweep
  | restart
  deriving DecidableEq, Repr

/-- A PURGE kind set (R179). -/
structure KindSet where
  claimed : Bool
  pinned : Bool
  barred : Bool
  deriving DecidableEq, Repr

/-- Which sweep SWEEP_NOW waits for (R188). -/
inductive AwaitedSweep where
  | current
  | next
  deriving DecidableEq, Repr

/-- The long-operation record (R176). A filter of none is "any". -/
structure LongOp where
  kind : LongKind
  cursor : Nat
  windowFilter : Option WindowNo
  ownerFilter : Option Initiator
  kindSet : Option KindSet
  source : Option Initiator
  target : Option Initiator
  affected : Nat
  skipped : Nat
  abortRequested : Bool
  awaited : Option AwaitedSweep
  stopTime : Option Nat
  drainForcing : Bool
  /-- Model's own: RESTART's clear step has been taken and its resume step has not (R193, R194; assumption log 5). -/
  cleared : Bool
  deriving DecidableEq, Repr

/-- R176: the cold long-operation record. -/
def LongOp.cold : LongOp :=
  { kind := .none, cursor := 0, windowFilter := none, ownerFilter := none, kindSet := none, source := none,
    target := none, affected := 0, skipped := 0, abortRequested := false, awaited := none, stopTime := none,
    drainForcing := false, cleared := false }

/-! ### The whole part -/

/-- The state of the 2416. -/
structure State where
  /-- Upstream Port: the 16 request lanes (R101). -/
  lanes : Vec (Option Request) 16
  /-- Admission Unit: the round-robin pointer (R49). -/
  roundRobin : Fin 16
  /-- Window Map: the 16 window records (R32). -/
  windows : Vec Window 16
  /-- Window Map: the outside policy record (R46). -/
  outside : OutsidePolicy
  /-- Granule Table: 1024 entries (R1). -/
  table : Vec Entry 1024
  /-- Gate File: 16 gate records (R79). -/
  gates : Vec Gate 16
  /-- Transit Tracker: 32 slots (R106). -/
  slots : Vec Slot 32
  /-- Transit Tracker: the 16 return-order lists, heads first (R109). -/
  returnLists : Vec (List SlotNo) 16
  /-- Transit Tracker: the forward queue, head first (R111). -/
  forwardQueue : List SlotNo
  /-- Transit Tracker: the response timeout in µs, 0 for none (R113). -/
  responseTimeout : Nat
  /-- Upstream Port: the response pointer (R121). -/
  responsePointer : Fin 16
  /-- Aging Sweep (R128). -/
  sweep : Sweep
  /-- Event Queue (R140). -/
  queue : EventQueue
  /-- Management Port (R159, R160, R166). -/
  port : Port
  /-- Command Unit: checked frames passed on and not yet taken, oldest first (R162). -/
  passedOn : List PassedOn
  /-- Command Unit: the long-operation record (R176). -/
  long : LongOp
  /-- The 1 µs time base (00_scope, "Time"; assumption log 3). -/
  now : Nat
  /-- Model's own: every downstream request handed to the memory controller, oldest first (assumption log 4). -/
  sentDown : List DownstreamRequest
  /-- Model's own: every response that has left upstream, oldest first (assumption log 4). -/
  leftUp : List UpstreamResponse
  /-- Model's own: the commands that wait, first in, first out (assumption log 2). -/
  pending : List Instr
  deriving DecidableEq, Repr

/-- The part right after cold reset: every block at its cold value (R30, R34, R46, R49, R80, R126, R128, R140, R160,
R166, R176). -/
def State.reset : State :=
  { lanes := .replicate 16 none
    roundRobin := 0
    windows := .replicate 16 .cold
    outside := .cold
    table := .replicate 1024 .free
    gates := .replicate 16 .cold
    slots := .replicate 32 .free
    returnLists := .replicate 16 []
    forwardQueue := []
    responseTimeout := 0
    responsePointer := 0
    sweep := .cold 0
    queue := .cold
    port := .cold true 0
    passedOn := []
    long := .cold
    now := 0
    sentDown := []
    leftUp := []
    pending := [] }

/-- The faults of the machine. There are none: the manual gives every command an effect in every state, and says of no
condition that the part stops (safe). -/
inductive Fault where
  deriving DecidableEq, Repr

/-- The refusals of the machine. -/
inductive Refusal where
  /-- Raised by `exec` for a command that has no meaning yet; no arm raises it (safe). -/
  | notModelled (mnemonic : String)
  deriving DecidableEq, Repr

end Sys2Proof.Machine
end

