-- ==== Sys2Proof/Machine/Ops.lean ====
section
/-! DEFINITION. The named operations over the state: reading and replacing one record, the table's lookup, placement and
freeing, the settling of events, the window lookup, the tracker's moves, the sweep's start and end, and the acceptance
and end of a long command. Every meaning is written over these. -/

namespace Sys2Proof.Machine

/-- What one step answers. -/
abbrev Outcome := Host.Outcome State Fault Refusal

/-! ### One record of the state -/

/-- The lane of an initiator. -/
def State.lane (s : State) (i : Initiator) : Option Request := s.lanes.get i
/-- The window record numbered `w`. -/
def State.window (s : State) (w : WindowNo) : Window := s.windows.get w
/-- The entry at index `e`. -/
def State.entry (s : State) (e : EntryIndex) : Entry := s.table.get e
/-- The gate of an initiator. -/
def State.gate (s : State) (i : Initiator) : Gate := s.gates.get i
/-- The slot numbered `k`. -/
def State.slot (s : State) (k : SlotNo) : Slot := s.slots.get k
/-- The return-order list of an initiator. -/
def State.returnList (s : State) (i : Initiator) : List SlotNo := s.returnLists.get i

def State.putLane (s : State) (i : Initiator) (r : Option Request) : State := { s with lanes := s.lanes.set i r }
def State.putWindow (s : State) (w : WindowNo) (r : Window) : State := { s with windows := s.windows.set w r }
def State.putEntry (s : State) (e : EntryIndex) (x : Entry) : State := { s with table := s.table.set e x }
def State.putGate (s : State) (i : Initiator) (g : Gate) : State := { s with gates := s.gates.set i g }
def State.putSlot (s : State) (k : SlotNo) (x : Slot) : State := { s with slots := s.slots.set k x }
def State.putReturnList (s : State) (i : Initiator) (l : List SlotNo) : State :=
  { s with returnLists := s.returnLists.set i l }
def State.putForward (s : State) (q : List SlotNo) : State := { s with forwardQueue := q }
def State.putSweep (s : State) (w : Sweep) : State := { s with sweep := w }
def State.putQueue (s : State) (q : EventQueue) : State := { s with queue := q }
def State.putPort (s : State) (p : Port) : State := { s with port := p }
def State.putLong (s : State) (l : LongOp) : State := { s with long := l }
def State.putPassedOn (s : State) (h : List PassedOn) : State := { s with passedOn := h }
def State.putNow (s : State) (t : Nat) : State := { s with now := t }
def State.putRoundRobin (s : State) (i : Fin 16) : State := { s with roundRobin := i }
def State.putResponsePointer (s : State) (i : Fin 16) : State := { s with responsePointer := i }

/-! ### Outputs and conditions that are computed -/

/-- R155: ATTN is asserted exactly while the Event Queue holds at least one record. -/
def State.attn (s : State) : Bool := !s.queue.records.isEmpty

/-- R170, R173: RESTART runs, and admission is stopped, from the stop step to the resume step. -/
def State.restarting (s : State) : Bool := s.long.kind == .restart

/-- R106: a slot is occupied when its state is not FREE. -/
def Slot.occupied : Slot → Bool
  | .free => false
  | _ => true

/-- R173: the occupied-slot count of STATUS. -/
def State.occupiedSlots (s : State) : Nat := s.slots.count Slot.occupied

/-- R191: the drain is complete when every slot is FREE or ORPHANED. -/
def State.drainComplete (s : State) : Bool :=
  s.slots.toList.all fun
    | .free => true
    | .orphaned _ => true
    | _ => false

/-! ### The window lookup -/

/-- R33: the window covers the addresses from its base, size × 2^k of them. -/
def Window.covers (w : Window) (a : Addr) : Bool :=
  decide (w.base.toNat ≤ a.toNat) && decide (a.toNat < w.base.toNat + w.size * 2 ^ w.exponent)

/-- R33: the granule number of an address in a window. -/
def Window.granuleOf (w : Window) (a : Addr) : Nat := (a.toNat - w.base.toNat) / 2 ^ w.exponent

/-- R35: the enabled window that covers an address, or none. -/
def State.findWindow (s : State) (a : Addr) : Option WindowNo :=
  (List.finRange 16).find? fun w => (s.window w).enabled && (s.window w).covers a

/-- R35, R33: the key of an address in the enabled window that covers it, or none. -/
def State.findKey (s : State) (a : Addr) : Option Key :=
  (s.findWindow a).map fun w => ⟨w, (s.window w).granuleOf a⟩

/-- R43: two windows' ranges share at least one address. -/
def Window.meets (v w : Window) : Bool :=
  decide (max v.base.toNat w.base.toNat
    < min (v.base.toNat + v.size * 2 ^ v.exponent) (w.base.toNat + w.size * 2 ^ w.exponent))

/-! ### The Granule Table -/

/-- R2: the bucket of a key, (g mod 256) XOR (16 × w). -/
def Key.bucket (k : Key) : BitVec 8 := BitVec.ofNat 8 k.granule ^^^ BitVec.ofNat 8 (16 * k.window.val)

/-- R1: way `v` of bucket `b` has index 4 × b + v. -/
def wayIndex (b : BitVec 8) (v : Fin 4) : EntryIndex := ⟨4 * b.toNat + v.val, by have := b.isLt; omega⟩

/-- R1: the four ways of a key's bucket, lowest first. -/
def Key.ways (k : Key) : List EntryIndex := (List.finRange 4).map (wayIndex k.bucket)

/-- The key of an entry that is not FREE. -/
def Entry.key? : Entry → Option Key
  | .free => none
  | .claimed k _ => some k
  | .pinned k _ => some k
  | .barred k => some k

/-- Whether an entry is FREE. -/
def Entry.isFree : Entry → Bool
  | .free => true
  | _ => false

/-- Whether an entry is CLAIMED. -/
def Entry.isClaimed : Entry → Bool
  | .claimed _ _ => true
  | _ => false

/-- R41: whether an entry is a non-FREE entry of window `w`. -/
def Entry.inWindow (w : WindowNo) (x : Entry) : Bool :=
  match x.key? with
  | some k => decide (k.window = w)
  | none => false

/-- R3: the entry that matches a key, or none. -/
def State.lookup (s : State) (k : Key) : Option EntryIndex :=
  k.ways.find? fun e => (s.entry e).key? == some k

/-- R4: the lowest-numbered FREE way of a key's bucket, or none. -/
def State.freeWay (s : State) (k : Key) : Option EntryIndex :=
  k.ways.find? fun e => (s.entry e).isFree

/-- R45: the number of non-FREE entries of a window. -/
def State.entryCount (s : State) (w : WindowNo) : Nat := s.table.count (Entry.inWindow w)

/-- R12: touch, which leaves every entry but a CLAIMED one as it is. -/
def Entry.touch : Entry → Entry
  | .claimed k c => .claimed k { c with touched := true }
  | x => x

/-- The claim slot of a pending entry. -/
def Entry.claimSlot? : Entry → Option SlotNo
  | .claimed _ c => c.claimSlot
  | _ => none

/-- A share set without one initiator (R11). -/
def shareWithout (m : ShareSet) (i : Initiator) : ShareSet := m &&& ~~~(BitVec.ofNat 16 (2 ^ i.val))

/-- Whether an initiator is in a share set. -/
def shareHas (m : ShareSet) (i : Initiator) : Bool := m.getLsbD i.val

/-- The claim link of a slot becomes none (R6, R15). -/
def Slot.unlink : Slot → Slot
  | .queued a p _ => .queued a p none
  | .outstanding a _ d => .outstanding a none d
  | x => x

/-- The claim link of a slot (R106). -/
def Slot.link? : Slot → Option EntryIndex
  | .queued _ _ l => l
  | .outstanding _ l _ => l
  | _ => none

/-- The claim link of slot `k` becomes none. -/
def State.unlinkSlot (s : State) (k : SlotNo) : State := s.putSlot k (s.slot k).unlink

/-- R6: freeing an entry, with the claim link of its claim slot when it was pending. -/
def State.freeEntry (s : State) (e : EntryIndex) : State :=
  match (s.entry e).claimSlot? with
  | some k => (s.unlinkSlot k).putEntry e .free
  | none => s.putEntry e .free

/-! ### Settling events -/

/-- R144: two addresses lie in one granule of window `w` as its exponent stands, or in one 4 KiB page where there is
no window. -/
def State.sameGranule (s : State) (w : Option WindowNo) (a b : Addr) : Bool :=
  let k := match w with
    | some w => (s.window w).exponent
    | none => 12
  decide (a.toNat / 2 ^ k = b.toNat / 2 ^ k)

/-- R144: the event agrees with a record's event in all that coalescing asks. -/
def State.sameIncident (s : State) : Event → Event → Bool
  | .violation i w a x r d, .violation i' w' a' x' r' d' =>
    i == i' && w == w' && s.sameGranule w a a' && x == x' && r == r' && d == d'
  | .malformed i a _, .malformed i' a' _ => i == i' && s.sameGranule none a a'
  | _, _ => false

/-- R144: the event coalesces into the newest record. -/
def State.coalesces (s : State) (e : Event) : Bool :=
  match s.queue.records.getLast? with
  | some r => !r.fetched && s.sameIncident e r.event
  | none => false

/-- R145: the newest record's repeat count rises by 1, saturating at 255. -/
def Record.bump (r : Record) : Record := { r with repeats := min Config.countMax (r.repeats + 1) }

/-- R145: the newest record stands for one event more. -/
def EventQueue.mergeNewest (q : EventQueue) : EventQueue :=
  match q.records.getLast? with
  | some r => { q with records := q.records.dropLast ++ [r.bump] }
  | none => q

/-- R146: a record of the event is appended with the next sequence number, or the event is counted as lost when the
queue holds 64 records. -/
def EventQueue.append (q : EventQueue) (e : Event) : EventQueue :=
  if q.records.length < Config.queueCapacity then
    { q with
      records := q.records ++ [{ sequence := q.nextSequence, event := e, repeats := 1, fetched := false }]
      nextSequence := q.nextSequence + 1 }
  else { q with lostTally := min Config.lostMax (q.lostTally + 1) }

/-- R143: an event is settled in the happening that raises it: merged, appended or counted as lost. -/
def State.raise (s : State) (e : Event) : State :=
  if s.coalesces e then s.putQueue s.queue.mergeNewest else s.putQueue (s.queue.append e)

/-- R143: the events of one happening, settled one after another in their order. -/
def State.raiseAll (s : State) : List Event → State
  | [] => s
  | e :: es => (s.raise e).raiseAll es

/-! ### The Transit Tracker -/

/-- R108: the lowest-numbered FREE slot, or none. -/
def State.freeSlot (s : State) : Option SlotNo := (List.finRange 32).find? fun k => !(s.slot k).occupied

/-- Memory's answer as a slot holds it (R105, R114): for an OKAY read the L bytes the response carries, 0 for each byte
it lacks. -/
def memoryResponse (a : SlotAccess) (status : RespStatus) (data : List Byte) : Response :=
  match status, a.kind with
  | .okay, .read => { status := .okay, data := (data ++ List.replicate a.length 0).take a.length }
  | .okay, .write => { status := .okay, data := [] }
  | .error, _ => { status := .error, data := [] }

/-- The ERROR response with no data (R55, R118). -/
def errorResponse : Response := { status := .error, data := [] }

/-- R16: the claim a slot's link names is confirmed. -/
def State.confirmClaim (s : State) (link : Option EntryIndex) : State :=
  match link with
  | none => s
  | some e =>
    match s.entry e with
    | .claimed k c => s.putEntry e (.claimed k { c with claimSlot := none })
    | _ => s

/-- R17, R18: the claim a slot's link names is voided, and CLAIM_VOIDED is queued with the slot's initiator and address
and the entry's window. -/
def State.voidClaim (s : State) (a : SlotAccess) (link : Option EntryIndex) : State :=
  match link with
  | none => s
  | some e =>
    match (s.entry e).key? with
    | some k => (s.freeEntry e).raise (.claimVoided a.initiator k.window a.addr e)
    | none => s

/-- R118, R119: an OUTSTANDING slot times out. It becomes READY with ERROR and the orphan mark, RESPONSE_TIMEOUT is
queued, and then its claim is voided. -/
def State.timeOut (s : State) (k : SlotNo) : State :=
  match s.slot k with
  | .outstanding a link _ =>
    ((s.putSlot k (.ready a ⟨[], []⟩ errorResponse true)).raise (.responseTimeout a.initiator a.addr k)).voidClaim a
      link
  | _ => s

/-- The 16 numbers from `p` upward, wrapping from 15 to 0 (R51, R121). -/
def rotation (p : Fin 16) : List (Fin 16) := (List.finRange 16).map fun d => p + d

/-! ### The Aging Sweep -/

/-- R131: a sweep starts. -/
def Sweep.start (w : Sweep) : Sweep := { w with running := true, cursor := 0, released := 0 }

/-- R130, R188: a sweep is asked for: it starts when none runs, and is made pending when one does. -/
def Sweep.request (w : Sweep) : Sweep := if w.running then { w with pending := true } else w.start

/-- R134: a sweep ends, a pending one starting at once. -/
def Sweep.finish (w : Sweep) : Sweep :=
  if w.pending then { w.start with pending := false } else { w with running := false, cursor := 1024 }

/-- R138: RESTART's stop step stops a running sweep, clears sweep pending and holds the timer from expiring. -/
def Sweep.stop (w : Sweep) : Sweep :=
  { w with running := false, cursor := 1024, pending := false, expiryDue := false }

/-- R138, R194: the interval timer restarts from 0 at time `now`. -/
def Sweep.restartTimer (w : Sweep) (now : Nat) : Sweep := { w with elapsed := 0, boundary := now, expiryDue := false }

/-! ### Long commands -/

/-- R177: a long command's end sets the kind to NONE and keeps every other field. -/
def LongOp.ended (l : LongOp) : LongOp := { l with kind := .none }

/-- R187: a PURGE, REOWN or SWEEP_NOW ends, and COMMAND_DONE is queued with its affected count. -/
def State.endLong (s : State) (c : DoneCommand) (r : Completion) : State :=
  (s.putLong s.long.ended).raise (.commandDone c r s.long.affected)

/-- R189: the end of a sweep is handed to the Command Unit with its released count. -/
def State.sweepEnded (s : State) (released : Nat) : State :=
  match s.long.kind, s.long.awaited with
  | .sweep, some .current => (s.putLong { s.long with affected := released }).endLong .sweep .complete
  | .sweep, some .next => s.putLong { s.long with awaited := some .current }
  | _, _ => s

/-- R178: a walk step raises the cursor by 1, and the step at index 1023 completes the walk. -/
def State.advanceWalk (s : State) (c : DoneCommand) : State :=
  let t := s.putLong { s.long with cursor := s.long.cursor + 1 }
  if t.long.cursor = 1024 then t.endLong c .complete else t

/-! ### Commands and replies -/

/-- The reply a command's happening fixes, with the state that happening leaves. -/
structure Answer where
  state : State
  status : Status
  results : List Byte

/-- A refusal changes nothing and carries no result bytes (R168, R163). -/
def refuse (s : State) (st : Status) : Answer := ⟨s, st, []⟩

/-- A short command's success (R171). -/
def done (s : State) (results : List Byte := []) : Answer := ⟨s, .done, results⟩

/-- A long command's acceptance (R172). -/
def accept (s : State) : Answer := ⟨s, .accepted, []⟩

/-- R162: the Command Unit takes what the port has passed on in that order. While nothing is held, the happening is
that of a frame whose bits the schedule of commands does not spell out (assumption log 8). -/
def State.canTake (s : State) (h : PassedOn) : Bool :=
  match s.passedOn with
  | [] => true
  | x :: _ => x == h

/-- R163: the reply becomes ready in a receiver that awaits it, which it does only for the newest frame passed on. -/
def Receiver.deliver (r : Receiver) (stillHeld : List PassedOn) (reply : Reply) : Receiver :=
  match r, stillHeld with
  | .replying (.filler owed bit none), [] => .replying (.filler owed bit (some reply))
  | r, _ => r

/-- R162, R166: the happening that fixes a reply takes the oldest frame held, makes the reply, and stores it as the last
reply where R166 has it replaced. -/
def State.fixReply (s : State) (reply : Reply) (store : Option Byte) : State :=
  let rest := s.passedOn.drop 1
  { s with
    passedOn := rest
    port := { s.port with
      receiver := s.port.receiver.deliver rest reply
      replyMade := some reply
      lastReply := match store with
        | some code => some ⟨code, reply.status, reply.results⟩
        | none => s.port.lastReply } }

/-- R170: the commands that are admitted while RESTART runs. -/
def exemptFromRestart : Command → Bool
  | .status => true
  | .repeatReply => true
  | .fetchEvents => true
  | _ => false

/-- R168: a checked command is judged and, if accepted, takes effect, in one happening. `body` judges steps 2 to 5 and
gives the effect. -/
def runCommand (c : Command) (i : Instr) (body : State → Answer) (s : State) : Outcome :=
  if s.canTake (.command i) then
    let a := if s.restarting && !exemptFromRestart c then refuse s .restarting else body s
    .next (a.state.fixReply ⟨a.status, a.results⟩ (if c = .repeatReply then none else some c.code))
  else .next s

end Sys2Proof.Machine
end

