-- ==== Sys2Proof/Machine/Admission.lean ====
section
/-! DEFINITION. ADMISSION: the choice of the lane, the nine steps that judge its request, and the outcome, in the order of
the Admission and Verdicts chapter. Each step reads the judgement left by the one before. -/

namespace Sys2Proof.Machine

/-! ### The choice of the lane -/

/-- R50: the lane holds a request and its gate is not HELD; the other two conditions concern the whole part. -/
def State.laneEligible (s : State) (i : Initiator) : Bool :=
  (s.lane i).isSome && !((s.gate i).state == .held)

/-- R51: the first eligible lane from the round-robin pointer upward, with none while admission is stopped or no slot is
FREE (R50). -/
def State.chosenLane (s : State) : Option Initiator :=
  if s.restarting || s.freeSlot.isNone then none else (rotation s.roundRobin).find? s.laneEligible

/-! ### The judgement an admission carries -/

/-- The working verdict (R53). -/
inductive Verdict where
  | pass
  | claimDue
  | refuse (reason : Reason)
  deriving DecidableEq, Repr

/-- What an admission carries from step to step (R53): the working verdict, the key of the address where a window was
found, the granted entry, the entry of a claim made, the reason of a softened refusal, the gate as the budget step left
it, and the events raised so far in their order (R71). -/
structure Judgement where
  verdict : Verdict
  key : Option Key
  granted : Option EntryIndex
  claimed : Option EntryIndex
  audited : Option Reason
  gate : Gate
  events : List Event
  deriving DecidableEq, Repr

/-- A judgement with this verdict and window, and nothing else yet. -/
def Judgement.start (v : Verdict) (key : Option Key) (g : Gate) : Judgement :=
  { verdict := v, key := key, granted := none, claimed := none, audited := none, gate := g, events := [] }

/-- R54: the request is malformed when its length is 0 or above 256, or it crosses a 4 KiB boundary. -/
def malformed (r : Request) : Bool :=
  decide (r.length = 0) || decide (256 < r.length) || decide (4096 < r.addr.toNat % 4096 + r.length)

/-! ### Window and table steps -/

/-- R10, R59: what a CLAIMED or PINNED entry grants, by its owner, share set and strict. -/
def grant (owner : Initiator) (share : ShareSet) (strict : Bool) (i : Initiator) (k : Access) : Verdict :=
  if i = owner then .pass
  else match k with
    | .write => .refuse .notOwner
    | .read => if strict && !shareHas share i then .refuse .notSharer else .pass

/-- R59: the working verdict an entry found by the lookup gives. -/
def Entry.verdict (x : Entry) (i : Initiator) (k : Access) : Verdict :=
  match x with
  | .claimed _ c => grant c.owner c.share c.strict i k
  | .pinned _ p => grant p.owner p.share p.strict i k
  | .barred _ => .refuse .barred
  | .free => .refuse .unlisted

/-- R59: the working verdict where the lookup finds no entry, in a window of this mode. -/
def unlistedVerdict (m : WindowMode) (k : Access) : Verdict :=
  match m, k with
  | .learn, .read => .pass
  | .learn, .write => .claimDue
  | _, _ => .refuse .unlisted

/-- The table step (R59), for a LEARN or FIXED window. -/
def State.tableStep (s : State) (r : Request) (key : Key) (g : Gate) : Judgement :=
  match s.lookup key with
  | none => .start (unlistedVerdict (s.window key.window).mode r.kind) (some key) g
  | some e =>
    let v := (s.entry e).verdict r.initiator r.kind
    { Judgement.start v (some key) g with granted := if v = .pass then some e else none }

/-- The window step (R58), going on to the table step where the window's mode asks for it. -/
def State.windowStep (s : State) (r : Request) (g : Gate) : Judgement :=
  match s.findKey r.addr with
  | none =>
    match s.outside.action with
    | .pass => .start .pass none g
    | .refuse => .start (.refuse .outside) none g
  | some key =>
    match (s.window key.window).mode with
    | .opened => .start .pass (some key) g
    | .closed => .start (.refuse .closedWindow) (some key) g
    | .learn => s.tableStep r key g
    | .fixed => s.tableStep r key g

/-! ### Budget step -/

/-- R89, R91: a reload moves next into remaining and queues BUDGET_RELOADED, where remaining is 0 and next above 0. -/
def Gate.reload (g : Gate) (i : Initiator) : Gate × List Event :=
  if g.remaining = 0 ∧ 0 < g.next then
    ({ g with remaining := g.next, next := 0 }, [.budgetReloaded i g.next])
  else (g, [])

/-- R91: a write of `length` bytes is charged; natural subtraction stops at 0. -/
def Gate.charge (g : Gate) (length : Nat) : Gate := { g with remaining := g.remaining - length }

/-- R60, R88: the budget step runs for a write that can still pass, from a gate with budget on. -/
def Judgement.charged (j : Judgement) (r : Request) : Bool :=
  r.kind == .write && (j.verdict == .pass || j.verdict == .claimDue) && j.gate.budgetOn

/-- The budget step (R60, R88 to R93): the judgement it leaves, and whether the admission ends as a budget hold. -/
def Judgement.budgetStep (j : Judgement) (r : Request) : Judgement × Bool :=
  if j.charged r then
    let (g, before) := j.gate.reload r.initiator
    if g.remaining = 0 then
      let exhausted := { j with gate := g, events := j.events ++ before ++ [Event.budgetExhausted r.initiator] }
      if g.exhaust = .hold ∧ g.state = .opened then
        ({ exhausted with gate := { g with state := .held } }, true)
      else ({ exhausted with verdict := .refuse .budget }, false)
    else
      let (g', after) := (g.charge r.length).reload r.initiator
      ({ j with gate := g', events := j.events ++ before ++ after }, false)
  else (j, false)

/-! ### Claim and audit steps -/

/-- The claim step (R63, R64): a due claim finds a FREE way of its bucket, or meets the window's full action. -/
def State.claimStep (s : State) (r : Request) (j : Judgement) : Judgement :=
  match j.verdict, j.key with
  | .claimDue, some key =>
    let w := s.window key.window
    match s.freeWay key with
    | some e =>
      { j with
        verdict := .pass
        claimed := some e
        events := j.events ++ if w.reportLearning then [Event.learned r.initiator key.window r.addr e] else [] }
    | none =>
      { j with
        verdict := if w.fullAction = .refuse then .refuse .tableFull else .pass
        events := j.events ++ [Event.learnFull r.initiator key.window r.addr] }
  | _, _ => j

/-- The audit step (R66): a LISTEN gate softens a refusal to PASS and keeps its reason. The granted entry of a softened
access is none, so it touches no entry (R12, R66, R135), a BUDGET refusal that follows a granted table step included
(assumption log 11). -/
def Judgement.auditStep (j : Judgement) : Judgement :=
  match j.verdict with
  | .refuse reason =>
    if j.gate.state = .listen then
      { j with verdict := .pass, audited := some reason, granted := none }
    else j
  | _ => j

/-- Steps 2 to 8 for a well-formed request (R56 to R66): the judgement, and whether the budget step held the
request. -/
def State.judge (s : State) (r : Request) : Judgement × Bool :=
  let g := s.gate r.initiator
  if g.state = .shut then (.start (.refuse .gateShut) (s.findKey r.addr) g, false)
  else if g.privileged then (.start .pass none g, false)
  else
    let (j, held) := (s.windowStep r g).budgetStep r
    if held then (j, true) else ((s.claimStep r j).auditStep, false)

/-! ### Substitute responses -/

/-- R73: the byte of the fill pattern returned for an address; pattern byte 0 is the most significant. -/
def fillByte (fill : BitVec 32) (a : Nat) : Byte := BitVec.ofNat 8 (fill.toNat / 256 ^ (3 - a % 4))

/-- R73: a QUIET read's data, the pattern aligned to the address. -/
def fillData (fill : BitVec 32) (a length : Nat) : List Byte :=
  (List.range length).map fun n => fillByte fill (a + n)

/-- R73, R74: the substitute response in a style. -/
def substitute (style : Style) (fill : BitVec 32) (r : Request) : Response :=
  match style, r.kind with
  | .loud, _ => errorResponse
  | .quiet, .write => { status := .okay, data := [] }
  | .quiet, .read => { status := .okay, data := fillData fill r.addr.toNat r.length }

/-- R72: the style and fill of the window found, or the outside ones. -/
def State.substituteFor (s : State) (key : Option Key) (r : Request) : Response :=
  match key with
  | some k => substitute (s.window k.window).style (s.window k.window).fill r
  | none => substitute s.outside.style s.outside.fill r

/-! ### Counters and the trip count -/

/-- R96, R97: a counter steps by 1, wrapping, and queues COUNTER_HIGH when it steps from 2^31 − 1 to 2^31. -/
def counterStep (i : Initiator) (c : GateCounter) (n : BitVec 32) : BitVec 32 × List Event :=
  (n + 1, if n.toNat = 2 ^ 31 - 1 then [.counterHigh i c] else [])

/-- R85: a final REFUSE from a gate in OPEN with any reason but GATE_SHUT. -/
def enforced (g : Gate) (v : Verdict) : Bool :=
  match v with
  | .refuse reason => g.state == .opened && reason != .gateShut
  | _ => false

/-- R85, R86: the trip count of an enforced refusal rises, saturating at 255, and the gate trips when the threshold is
nonzero and reached. -/
def Gate.tripStep (g : Gate) (i : Initiator) (v : Verdict) : Gate × List Event :=
  if enforced g v then
    let n := min Config.countMax (g.tripCount + 1)
    if g.tripThreshold ≠ 0 ∧ g.tripThreshold ≤ n then
      ({ g with tripCount := n, state := .shut }, [.gateTripped i])
    else ({ g with tripCount := n }, [])
  else (g, [])

/-- R70: the counters an admission steps: admitted always, then refused for a final REFUSE or claims for a claim. -/
def Gate.countStep (g : Gate) (i : Initiator) (refused claimed : Bool) : Gate × List Event :=
  let (a, ea) := counterStep i .admitted g.admitted
  let (r, er) := if refused then counterStep i .refused g.refused else (g.refused, [])
  let (c, ec) := if claimed then counterStep i .claims g.claims else (g.claims, [])
  ({ g with admitted := a, refused := r, claims := c }, ea ++ er ++ ec)

/-! ### Outcome -/

/-- R67: what the slot copies from the request. -/
def requestAccess (r : Request) : SlotAccess :=
  { initiator := r.initiator, tag := r.tag, kind := r.kind, addr := r.addr, length := r.length }

/-- R67: the write data and byte enables, for a write. -/
def requestPayload (r : Request) : Payload :=
  match r.kind with
  | .write => ⟨r.data, r.enables⟩
  | .read => ⟨[], []⟩

/-- R53, R49, R67: the request leaves its lane, the pointer moves past it, and its slot joins the end of its initiator's
return-order list. -/
def State.takeRequest (s : State) (i : Initiator) (k : SlotNo) : State :=
  ((s.putLane i none).putRoundRobin (i + 1)).putReturnList i (s.returnList i ++ [k])

/-- R14, R63: the entry of a claim made, pending on slot `k`. -/
def State.newClaim (s : State) (i : Initiator) (key : Key) (k : SlotNo) : Entry :=
  .claimed key { owner := i, share := 0, strict := (s.window key.window).learnStrict, touched := true, age := 0,
                 claimSlot := some k }

/-- R67: the claim made at the claim step is placed, and the granted entry is touched. -/
def State.tableOutcome (s : State) (i : Initiator) (j : Judgement) (k : SlotNo) : State :=
  let t := match j.claimed, j.key with
    | some e, some key => s.putEntry e (s.newClaim i key k)
    | _, _ => s
  match j.granted with
  | some e => t.putEntry e (t.entry e).touch
  | none => t

/-- R67, R68: the slot becomes QUEUED and joins the forward queue, or READY with its substitute response. -/
def State.slotOutcome (s : State) (r : Request) (j : Judgement) (k : SlotNo) : State :=
  match j.verdict with
  | .refuse _ => s.putSlot k (.ready (requestAccess r) (requestPayload r) (s.substituteFor j.key r) false)
  | _ => ((s.tableOutcome r.initiator j k).putForward (s.forwardQueue ++ [k])).putSlot k
      (.queued (requestAccess r) (requestPayload r) j.claimed)

/-- R66, R68: the VIOLATION of a refused or audited access. -/
def Judgement.violation (j : Judgement) (r : Request) : List Event :=
  match j.verdict, j.audited with
  | .refuse reason, _ => [.violation r.initiator (j.key.map Key.window) r.addr r.kind reason false]
  | _, some reason => [.violation r.initiator (j.key.map Key.window) r.addr r.kind reason true]
  | _, none => []

/-- Whether a verdict is REFUSE. -/
def Verdict.isRefuse : Verdict → Bool
  | .refuse _ => true
  | _ => false

/-- The outcome step (R67 to R71) of a judged request, in slot `k`. -/
def State.outcome (s : State) (r : Request) (j : Judgement) (k : SlotNo) : State :=
  let (g, tripped) := j.gate.tripStep r.initiator j.verdict
  let (g', high) := g.countStep r.initiator j.verdict.isRefuse j.claimed.isSome
  (((s.slotOutcome r j k).takeRequest r.initiator k).putGate r.initiator g').raiseAll
    (j.events ++ j.violation r ++ tripped ++ high)

/-- R55: a malformed request is answered ERROR in a READY slot; MALFORMED and then COUNTER_HIGH for admitted are
queued. -/
def State.answerMalformed (s : State) (r : Request) (k : SlotNo) : State :=
  let (g, high) := (s.gate r.initiator).countStep r.initiator false false
  (((s.putSlot k (.ready (requestAccess r) (requestPayload r) errorResponse false)).takeRequest r.initiator k).putGate
    r.initiator g).raiseAll (.malformed r.initiator r.addr r.length :: high)

/-- R61, R93: a budget hold: the gate is HELD, the budget's events are queued, and nothing else changes. -/
def State.holdRequest (s : State) (r : Request) (j : Judgement) : State :=
  (s.putGate r.initiator j.gate).raiseAll j.events

/-- R53: the admission of one request into slot `k`. -/
def State.admitRequest (s : State) (r : Request) (k : SlotNo) : State :=
  if malformed r then s.answerMalformed r k
  else
    let (j, held) := s.judge r
    if held then s.holdRequest r j else s.outcome r j k

/-- ADMISSION (R51, R53): the request of the first eligible lane is judged. With no eligible lane no admission takes
place (R52). -/
def execAdmission (s : State) : Outcome :=
  match s.chosenLane, s.freeSlot with
  | some i, some k =>
    match s.lane i with
    | some r => .next (s.admitRequest { r with initiator := i } k)
    | none => .next s
  | _, _ => .next s

end Sys2Proof.Machine
end

