-- ==== Sys2Proof/Machine/Due.lean ====
section
/-! DEFINITION. What the 1 µs time base makes fall due by a time, and which times it can move on to. A timed happening is
taken in the tick in which it falls due (R118, R119, R130, R192), so the time base does not move past one. -/

namespace Sys2Proof.Machine

/-- R192: the stop time plus 10,000 µs lies at or before time `t`. -/
def State.limitBy (s : State) (t : Nat) : Bool :=
  match s.long.stopTime with
  | some stop => decide (stop + Config.drainLimit ≤ t)
  | none => false

/-- R192: by time `t` RESTART's drain limit is reached, and it is still to be taken. -/
def State.drainLimitDue (s : State) (t : Nat) : Bool :=
  s.restarting && !s.drainComplete && !s.long.drainForcing && s.limitBy t

/-- R107: a slot that awaits memory's answer, and neither timed out nor was answered. -/
def Slot.isOutstanding : Slot → Bool
  | .outstanding _ _ _ => true
  | _ => false

/-- R119: the lowest slot whose forced timeout is still to be taken by time `t`. -/
def State.forcedSlot (s : State) (t : Nat) : Option SlotNo :=
  if s.restarting && s.long.drainForcing && s.limitBy t then
    (List.finRange 32).find? fun k => (s.slot k).isOutstanding
  else none

/-- R118: an OUTSTANDING slot's deadline lies at or before time `t`. -/
def Slot.expiredBy (x : Slot) (t : Nat) : Bool :=
  match x with
  | .outstanding _ _ (some d) => decide (d ≤ t)
  | _ => false

/-- R118: the lowest slot whose deadline has run out by time `t`. -/
def State.expiredSlot (s : State) (t : Nat) : Option SlotNo := (List.finRange 32).find? fun k => (s.slot k).expiredBy t

/-- R130: the timer's last millisecond boundary, at or before time `t`, is one at which it expires, and the expiry is still
to be taken. -/
def State.timerExpiryDue (s : State) (t : Nat) : Bool :=
  s.sweep.expiryDue && !s.restarting && decide (s.sweep.boundary ≤ t)

/-- R128: the next millisecond boundary of the interval timer. -/
def Sweep.nextBoundary (w : Sweep) : Nat := w.boundary + Config.ticksPerMillisecond

/-- A timed happening that falls due by time `t` and is still to be taken, or none. Where several are due in one tick their
order is left open; this is the model's (assumption log 3). -/
def State.dueBy (s : State) (t : Nat) : Option Instr :=
  if s.drainLimitDue t then some .drainLimit
  else match s.forcedSlot t with
    | some k => some (.forcedTimeout k)
    | none => match s.expiredSlot t with
      | some k => some (.deadlineExpiry k)
      | none =>
        if s.timerExpiryDue t then some .intervalTimerExpiry
        else if s.sweep.nextBoundary ≤ t then some .timerMillisecondBoundary
        else none

/-- The time base stands at time `t` or later, or can move on to it: nothing falls due before it (assumption log 3). -/
def State.canReach (s : State) (t : Nat) : Bool := decide (t ≤ s.now) || (s.dueBy (t - 1)).isNone

end Sys2Proof.Machine
end

