-- ==== Sys2Proof/Machine/Aging.lean ====
section
/-! DEFINITION. The Aging Sweep: TIMER_MILLISECOND_BOUNDARY, INTERVAL_TIMER_EXPIRY and SWEEP_STEP. -/

namespace Sys2Proof.Machine

/-- TIMER_MILLISECOND_BOUNDARY (R128): the elapsed count rises by 1, stopping at 65,535. The boundary is one at which
the timer expires when the interval is above 0 and the count is at or above it (R130), except while RESTART runs
(R138). The time base does not reach the boundary past another timed happening that falls due before. -/
def execTimerMillisecondBoundary (s : State) : Outcome :=
  let w := s.sweep
  let n := min Config.elapsedMax (w.elapsed + 1)
  let t := w.nextBoundary
  if s.canReach t then
    .next ((s.putNow (max s.now t)).putSweep
      { w with elapsed := n, boundary := t,
               expiryDue := decide (0 < w.interval) && decide (w.interval ≤ n) && !s.restarting })
  else .next s

/-- INTERVAL_TIMER_EXPIRY (R130): at a boundary at which the timer expires, the elapsed count restarts from 0 and a sweep
is asked for. -/
def execIntervalTimerExpiry (s : State) : Outcome :=
  if s.sweep.expiryDue && !s.restarting then
    .next (s.putSweep { s.sweep with elapsed := 0, expiryDue := false }.request)
  else .next s

/-- R132, R133: what a sweep step does to an entry, and the event it queues. A release is `none`. -/
def State.ageEntry (s : State) (k : Key) (c : Claim) : Option Claim :=
  if c.claimSlot.isSome then some c
  else if c.touched then some { c with touched := false, age := 0 }
  else if (s.window k.window).ageLimit ≤ c.age + 1 then none
  else some { c with age := c.age + 1 }

/-- R132, R133: the effect of a sweep step on the entry at index `e`, with the release counted and, where the window
reports releases, queued. -/
def State.sweepEntry (s : State) (e : EntryIndex) : State :=
  match s.entry e with
  | .claimed k c =>
    match s.ageEntry k c with
    | some c' => s.putEntry e (.claimed k c')
    | none =>
      let t := (s.freeEntry e).putSweep { s.sweep with released := s.sweep.released + 1 }
      if (s.window k.window).reportRelease then t.raise (.released k.window e k.granule) else t
  | _ => s

/-- R132: the step moves the cursor on; the step at index 1023 ends the sweep (R134), and its end is handed to the Command
Unit with the released count (R189). -/
def State.advanceSweep (s : State) : State :=
  if s.sweep.cursor + 1 = 1024 then (s.putSweep s.sweep.finish).sweepEnded s.sweep.released
  else s.putSweep { s.sweep with cursor := s.sweep.cursor + 1 }

/-- SWEEP_STEP (R132): one step of the running sweep, on the entry at its cursor. -/
def execSweepStep (s : State) : Outcome :=
  if h : s.sweep.running = true ∧ s.sweep.cursor < 1024 then
    .next (s.sweepEntry ⟨s.sweep.cursor, h.2⟩).advanceSweep
  else .next s

end Sys2Proof.Machine
end

