-- ==== Sys2Proof/Machine/Flags.lean ====
section
/-! DEFINITION. What the part sends: the flag bytes, the images and the reply bytes of R197 to R199. Absent fields are
sent as 0. -/

namespace Sys2Proof.Machine

/-- R198: the status bytes. -/
def Status.code : Status → Byte
  | .done => 0x00
  | .accepted => 0x01
  | .busy => 0x02
  | .restarting => 0x03
  | .badCheck => 0x04
  | .unknownCommand => 0x05
  | .badArgument => 0x06
  | .range => 0x07
  | .duplicate => 0x08
  | .bucketFull => 0x09
  | .notFound => 0x0A
  | .pending => 0x0B
  | .overlap => 0x0C
  | .windowInUse => 0x0D
  | .noSuchRecord => 0x0E
  | .notFetched => 0x0F
  | .notAbortable => 0x10
  | .noLongCommand => 0x11
  | .noReply => 0x12

/-- R163, R197: the bytes of a reply on MDO: the start byte, the status, the results and the reply check byte, which
covers the status and the results. -/
def Reply.bytes (r : Reply) : List Byte :=
  0x5A :: r.status.code :: (r.results ++ [crc8 (r.status.code :: r.results)])

/-- R199: an entry as an image, with its index. A FREE entry shows every other place 0, and so do absent fields. -/
def Entry.image (x : Entry) (e : EntryIndex) : EntryImage :=
  let index : BitVec 16 := BitVec.ofNat 16 e.val
  match x with
  | .free =>
    { kind := .free, strict := false, touched := false, pending := false, age := 0, window := 0, owner := 0,
      granule := 0, share := 0, claimSlot := 0, index := index }
  | .claimed k c =>
    { kind := .claimed, strict := c.strict, touched := c.touched, pending := c.claimSlot.isSome,
      age := BitVec.ofNat 3 c.age, window := k.window, owner := c.owner, granule := BitVec.ofNat 24 k.granule,
      share := c.share, claimSlot := BitVec.ofNat 5 ((c.claimSlot.map Fin.val).getD 0), index := index }
  | .pinned k p =>
    { kind := .pinned, strict := p.strict, touched := false, pending := false, age := 0, window := k.window,
      owner := p.owner, granule := BitVec.ofNat 24 k.granule, share := p.share, claimSlot := 0, index := index }
  | .barred k =>
    { kind := .barred, strict := false, touched := false, pending := false, age := 0, window := k.window, owner := 0,
      granule := BitVec.ofNat 24 k.granule, share := 0, claimSlot := 0, index := index }

/-- R199: the image of the entry at an index, 10 bytes. -/
def State.entryBytes (s : State) (e : EntryIndex) : List Byte := ((s.entry e).image e).bytes

/-- R199: a window record as an image. -/
def Window.image (w : Window) : WindowImage :=
  { enabled := w.enabled, mode := w.mode, style := w.style, learnStrict := w.learnStrict, fullAction := w.fullAction,
    reportLearning := w.reportLearning, reportRelease := w.reportRelease, exponent := BitVec.ofNat 8 w.exponent,
    ageLimit := BitVec.ofNat 8 w.ageLimit, base := w.base, size := BitVec.ofNat 24 w.size, fill := w.fill }

/-- R199: the outside policy as an image. -/
def OutsidePolicy.image (p : OutsidePolicy) : OutsideImage := { action := p.action, style := p.style, fill := p.fill }

/-- R198: the state byte of a gate. -/
def GateState.code : GateState → Byte
  | .opened => 0
  | .listen => 1
  | .held => 2
  | .shut => 3

/-- R198: the flags byte of READ_GATE: privileged at bit 3, budget on at bit 2, exhaust action HOLD at bit 1, lane holds
a request at bit 0. -/
def Gate.flags (g : Gate) (laneHolds : Bool) : Byte :=
  BitVec.ofNat 8 (flagAt 3 g.privileged + flagAt 2 g.budgetOn + flagAt 1 (g.exhaust == .hold) + flagAt 0 laneHolds)

/-- R198: the long command byte of STATUS. -/
def LongKind.code : LongKind → Byte
  | .none => 0
  | .purge => 1
  | .reown => 2
  | .sweep => 3
  | .restart => 4

/-- R198: the flags byte of STATUS: abort requested at bit 3, sweep running at bit 2, sweep pending at bit 1, admission
stopped at bit 0. -/
def State.statusFlags (s : State) : Byte :=
  BitVec.ofNat 8 (flagAt 3 s.long.abortRequested + flagAt 2 s.sweep.running + flagAt 1 s.sweep.pending
    + flagAt 0 s.restarting)

/-! ### Event record images -/

/-- R199: the reason codes of the violation reasons. -/
def Reason.code : Reason → Nat
  | .gateShut => 1
  | .outside => 2
  | .closedWindow => 3
  | .unlisted => 4
  | .barred => 5
  | .notOwner => 6
  | .notSharer => 7
  | .tableFull => 8
  | .budget => 9

/-- R199: the reason codes of the frame faults. -/
def FaultReason.code : FaultReason → Nat
  | .short => 10
  | .unknownLength => 11

/-- R199: the reason codes of the completions. -/
def Completion.code : Completion → Nat
  | .complete => 12
  | .aborted => 13

/-- R199: the command codes of COMMAND_DONE. -/
def DoneCommand.code : DoneCommand → Nat
  | .purge => 1
  | .reown => 2
  | .sweep => 3

/-- R97: the value COUNTER_HIGH carries. -/
def GateCounter.code : GateCounter → Nat
  | .admitted => 0
  | .refused => 1
  | .claims => 2

/-- The places of a record image before they are packed; every place a kind does not carry is 0 (R199). -/
structure RecordPlaces where
  kind : Nat
  command : Nat := 0
  windowNone : Bool := false
  initiator : Nat := 0
  window : Nat := 0
  write : Bool := false
  audited : Bool := false
  entry : Nat := 0
  reason : Nat := 0
  addr : Nat := 0
  value : Nat := 0
  deriving DecidableEq, Repr

/-- R142, R199: the places each kind of event fills. -/
def Event.places : Event → RecordPlaces
  | .violation i w a x r d =>
    { kind := 1, initiator := i.val, window := (w.map Fin.val).getD 0, windowNone := w.isNone, addr := a.toNat,
      write := x == .write, reason := r.code, audited := d }
  | .malformed i a l => { kind := 2, initiator := i.val, addr := a.toNat, value := l }
  | .learned i w a e => { kind := 3, initiator := i.val, window := w.val, addr := a.toNat, entry := e.val }
  | .learnFull i w a => { kind := 4, initiator := i.val, window := w.val, addr := a.toNat }
  | .claimVoided i w a e => { kind := 5, initiator := i.val, window := w.val, addr := a.toNat, entry := e.val }
  | .released w e g => { kind := 6, window := w.val, entry := e.val, value := g }
  | .gateTripped i => { kind := 7, initiator := i.val }
  | .budgetReloaded i v => { kind := 8, initiator := i.val, value := v }
  | .budgetExhausted i => { kind := 9, initiator := i.val }
  | .counterHigh i c => { kind := 10, initiator := i.val, value := c.code }
  | .responseTimeout i a k => { kind := 11, initiator := i.val, addr := a.toNat, value := k.val }
  | .lateResponse k => { kind := 12, value := k.val }
  | .strayResponse t => { kind := 13, value := t.val }
  | .frameFault r => { kind := 14, reason := r.code }
  | .commandDone c r n => { kind := 15, command := c.code, reason := r.code, value := n }
  | .restarted n => { kind := 16, value := n }
  | .lost n => { kind := 17, value := n }

/-- R199: the 16 bytes of an event record image. -/
def Record.bytes (r : Record) : List Byte :=
  let p := r.event.places
  bytesOf 2 r.sequence.toNat
    ++ [BitVec.ofNat 8 (64 * p.command + flagAt 5 p.windowNone + p.kind),
        BitVec.ofNat 8 (16 * p.initiator + p.window),
        BitVec.ofNat 8 (flagAt 7 p.write + flagAt 6 p.audited + 16 * (p.entry / 256) + p.reason),
        BitVec.ofNat 8 p.entry]
    ++ bytesOf 5 p.addr ++ bytesOf 4 p.value ++ [BitVec.ofNat 8 r.repeats]

end Sys2Proof.Machine
end

