-- ==== Sys2Proof/Machine/Frames.lean ====
section
/-! DEFINITION. The frame receiver of the Management Port: SEL_FALL, SEL_RISE, SCK_CYCLE, and the two happenings of a frame
that no command takes, CHECK_MISMATCH and UNKNOWN_COMMAND. -/

namespace Sys2Proof.Machine

/-- R163: entering REPLYING, with the reply ready already or still awaited. One filler byte is owed at the least; how many
more is left open (assumption log 6). -/
def Port.enterReply (p : Port) (ready : Option Reply) : Port :=
  { p with
    receiver := .replying (.filler (1 + Config.extraFiller p.replyCount) 0 ready)
    replyCount := p.replyCount + 1 }

/-- R164: the reply to a code byte that names no command. -/
def unknownReply : Reply := { status := .unknownCommand, results := [] }

/-- R161, R164: a whole code byte moves the receiver to ARGUMENTS, to CHECK when the code takes no arguments, or to REPLYING
when it names no command. -/
def Port.takeCode (p : Port) (code : Byte) : Port :=
  match Command.ofCode code with
  | none => { p.enterReply (some unknownReply) with replyMade := some unknownReply }
  | some c =>
    { p with receiver := if c.argBytes = 0 then .check c [] [] else .arguments c [] [] }

/-- R161: a whole argument byte is kept, and the last one moves the receiver to CHECK. -/
def Port.takeArgument (p : Port) (c : Command) (received : List Byte) (b : Byte) : Port :=
  let all := received ++ [b]
  { p with receiver := if c.argBytes ≤ all.length then .check c all [] else .arguments c all [] }

/-- R162: what a whole check byte passes on: the command the frame spells when it equals the remainder over the code and
the arguments, else a frame to be answered BAD_CHECK. -/
def checkFrame (c : Command) (received : List Byte) (b : Byte) : PassedOn :=
  if b = crc8 (c.code :: received) then
    match decodeArgs c received with
    | some i => .command i
    | none => .badCheck c.code
  else .badCheck c.code

/-- R162: a whole check byte: the frame is passed on to the Command Unit, and the receiver enters REPLYING. -/
def State.takeCheck (s : State) (c : Command) (received : List Byte) (b : Byte) : State :=
  (s.putPassedOn (s.passedOn ++ [checkFrame c received b])).putPort (s.port.enterReply none)

/-- R159: a bit arrives behind those of the present byte. The eighth completes the byte. -/
def arrive (bits : List Bool) (mdi : Bool) : List Bool ⊕ Byte :=
  let all := bits ++ [mdi]
  if all.length < 8 then .inl all else .inr (byteOf all)

/-- R163: one SCK cycle in REPLYING: the bit driven, and where the receiver stands after it. -/
def ReplyPhase.clock : ReplyPhase → Bool × Receiver
  | .filler owed bit ready =>
    match owed, bit, ready with
    | 0, 0, some r =>
      match r.bytes.flatMap bitsOf with
      | b :: rest => (b, .replying (.sending rest))
      | [] => (true, .trailing)
    | _, _, _ =>
      (true, .replying (.filler (if bit = 7 then owed - 1 else owed) (if bit = 7 then 0 else bit + 1) ready))
  | .sending (b :: rest) => (b, if rest.isEmpty then .trailing else .replying (.sending rest))
  | .sending [] => (true, .trailing)

/-- SCK_CYCLE (R159, R161 to R164): while SEL is low, one bit in on MDI and one bit out on MDO. SCK cycles while SEL is high
move nothing, and neither do those of a SEL that was low when cold reset ended (R160). -/
def execSckCycle (mdi : Bool) (s : State) : Outcome :=
  if s.port.selHigh then .next s
  else
    let p := { s.port with mdo := some true }
    match s.port.receiver with
    | .idle => .next s
    | .code bits =>
      match arrive bits mdi with
      | .inl bits => .next (s.putPort { p with receiver := .code bits })
      | .inr b => .next (s.putPort (p.takeCode b))
    | .arguments c received bits =>
      match arrive bits mdi with
      | .inl bits => .next (s.putPort { p with receiver := .arguments c received bits })
      | .inr b => .next (s.putPort (p.takeArgument c received b))
    | .check c received bits =>
      match arrive bits mdi with
      | .inl bits => .next (s.putPort { p with receiver := .check c received bits })
      | .inr b => .next ((s.putPort p).takeCheck c received b)
    | .replying phase => .next (s.putPort { p with mdo := some phase.clock.1, receiver := phase.clock.2 })
    | .trailing => .next (s.putPort p)

/-- SEL_FALL (R160): a falling edge of SEL in IDLE starts a frame, with no bits received. -/
def execSelFall (s : State) : Outcome :=
  if s.port.selHigh then
    .next (s.putPort { s.port with
      selHigh := false, mdo := some true
      receiver := match s.port.receiver with
        | .idle => .code []
        | r => r })
  else .next s

/-- R165: the frame fault a rising edge of SEL raises in each receiver state. -/
def Receiver.cutShort : Receiver → Option FaultReason
  | .code (_ :: _) => some .unknownLength
  | .arguments _ _ _ => some .short
  | .check _ _ _ => some .short
  | _ => none

/-- SEL_RISE (R165): a rising edge of SEL ends the frame and returns the receiver to IDLE; a frame cut short before its
check byte queues FRAME_FAULT. -/
def execSelRise (s : State) : Outcome :=
  if s.port.selHigh then .next s
  else
    let t := s.putPort { s.port with selHigh := true, receiver := .idle, mdo := none }
    match s.port.receiver.cutShort with
    | some r => .next (t.raise (.frameFault r))
    | none => .next t

/-- CHECK_MISMATCH (R162, R166): the frame with this code is answered BAD_CHECK, once earlier frames' happenings have been
taken, and that reply is stored as the last reply. A code that names no command reaches no check byte (R164). -/
def execCheckMismatch (code : Byte) (s : State) : Outcome :=
  if s.canTake (.badCheck code) && (Command.ofCode code).isSome then
    .next (s.fixReply { status := .badCheck, results := [] } (some code))
  else .next s

/-- UNKNOWN_COMMAND (R164): a code byte that names no command is answered at once. A receiver in CODE whose bits so far
begin that byte enters REPLYING; otherwise the frame's bits are not spelled out, and the reply alone is made
(assumption log 8). Nothing is stored as the last reply. -/
def execUnknownCommand (code : Byte) (s : State) : Outcome :=
  match Command.ofCode code with
  | some _ => .next s
  | none =>
    match s.port.receiver with
    | .code bits =>
      if bits.isPrefixOf (bitsOf code) then .next (s.putPort ({ s.port with mdo := some true }.takeCode code))
      else .next s
    | _ => .next (s.putPort { s.port with replyMade := some unknownReply })

end Sys2Proof.Machine
end

