-- ==== Sys2Proof/Machine/Operands.lean ====
section
/-! DEFINITION. The common argument checks (R169): what each argument byte names, or none where it names no value. -/

namespace Sys2Proof.Machine

/-- R169: an initiator or window byte of 0 to 15; a byte above 15 names none. -/
def indexArg (b : Byte) : Option (Fin 16) :=
  if h : b.toNat < 16 then some ⟨b.toNat, h⟩ else none

/-- R198: a choice, flag or clear byte is 0 for no and 1 for yes. -/
def choiceArg (b : Byte) : Option Bool :=
  if b = 0 then some false else if b = 1 then some true else none

/-- R198: a gate state byte, 0 OPEN, 1 LISTEN, 2 HELD, 3 SHUT. -/
def gateStateArg (b : Byte) : Option GateState :=
  if b = 0 then some .opened else if b = 1 then some .listen else if b = 2 then some .held
  else if b = 3 then some .shut else none

/-- R198: an exhaust action byte, 0 REFUSE, 1 HOLD. -/
def exhaustArg (b : Byte) : Option ExhaustAction :=
  if b = 0 then some .refuse else if b = 1 then some .hold else none

/-- R198: a filter byte holds a window or initiator 0 to 15, or 0xFF for any (the inner none). -/
def filterArg (b : Byte) : Option (Option (Fin 16)) :=
  if b = 0xFF then some none else (indexArg b).map some

/-- R169: a granule number of at most 1,048,575. -/
def granuleArg (g : BitVec 24) : Option Nat :=
  if g.toNat ≤ Config.granuleMax then some g.toNat else none

/-- R198: a key is a window number byte and a granule number. -/
def keyArg (w : Byte) (g : BitVec 24) : Option Key :=
  match indexArg w, granuleArg g with
  | some w, some g => some ⟨w, g⟩
  | _, _ => none

/-- The key of an entry image sent as an argument; its window place has four bits and always names a window. -/
def imageKey (m : EntryImage) : Option Key := (granuleArg m.granule).map fun g => ⟨m.window, g⟩

/-- R179, R198: a PURGE kind set, CLAIMED at bit 0, PINNED at bit 1, BARRED at bit 2; a set bit 3 to 7 and the empty
set are refused. -/
def kindSetArg (b : Byte) : Option KindSet :=
  if b = 0 then none else if b.toNat < 8 then
    some { claimed := b.getLsbD 0, pinned := b.getLsbD 1, barred := b.getLsbD 2 }
  else none

/-- R40 checks 2 and 3: the exponent is 12 to 21, the size 1 to 1,048,576, the age limit 1 to 7, and the base a multiple
of 2^k. -/
def imageAdmissible (m : WindowImage) : Bool :=
  decide (12 ≤ m.exponent.toNat) && decide (m.exponent.toNat ≤ 21)
    && decide (1 ≤ m.size.toNat) && decide (m.size.toNat ≤ 1048576)
    && decide (1 ≤ m.ageLimit.toNat) && decide (m.ageLimit.toNat ≤ 7)
    && decide (m.base.toNat % 2 ^ m.exponent.toNat = 0)

/-- R40 check 4: base + size × 2^k is at most 2^40. -/
def imageFits (m : WindowImage) : Bool :=
  decide (m.base.toNat + m.size.toNat * 2 ^ m.exponent.toNat ≤ 2 ^ 40)

/-- R40: the given geometry differs from a record's when any of base, size and exponent is not equal. -/
def imageDiffers (m : WindowImage) (w : Window) : Bool :=
  !(decide (m.base = w.base) && decide (m.size.toNat = w.size) && decide (m.exponent.toNat = w.exponent))

/-- R42: the record that an accepted SET_WINDOW writes; the enabled flag is kept. -/
def imageWrite (m : WindowImage) (w : Window) : Window :=
  { enabled := w.enabled, base := m.base, size := m.size.toNat, exponent := m.exponent.toNat, mode := m.mode,
    style := m.style, fill := m.fill, ageLimit := m.ageLimit.toNat, learnStrict := m.learnStrict,
    fullAction := m.fullAction, reportLearning := m.reportLearning, reportRelease := m.reportRelease }

end Sys2Proof.Machine
end

