-- ==== Sys2Proof/Machine/GateCommands.lean ====
section
/-! DEFINITION. The commands of the Gate File: SET_GATE, SET_GATE_CONFIG, LOAD_BUDGET, READ_GATE and READ_COUNTERS. -/

namespace Sys2Proof.Machine

/-- R83: setting OPEN or LISTEN zeroes the trip count; setting HELD or SHUT keeps it. -/
def Gate.setState (g : Gate) (st : GateState) : Gate :=
  { g with state := st
           tripCount := match st with
             | .opened => 0
             | .listen => 0
             | .held => g.tripCount
             | .shut => g.tripCount }

/-- SET_GATE's checks and effect (R83). -/
def setGateBody (initiator state : Byte) (s : State) : Answer :=
  match indexArg initiator, gateStateArg state with
  | some i, some st => done (s.putGate i ((s.gate i).setState st))
  | _, _ => refuse s .badArgument

/-- SET_GATE (R83). -/
def execSetGate (initiator state : Byte) (s : State) : Outcome :=
  runCommand .setGate (.setGate initiator state) (setGateBody initiator state) s

/-- SET_GATE_CONFIG's checks and effect (R87). -/
def setGateConfigBody (initiator privileged threshold budgetOn exhaust : Byte) (s : State) : Answer :=
  match indexArg initiator, choiceArg privileged, choiceArg budgetOn, exhaustArg exhaust with
  | some i, some p, some b, some x =>
    done (s.putGate i { s.gate i with privileged := p, tripThreshold := threshold.toNat, budgetOn := b, exhaust := x })
  | _, _, _, _ => refuse s .badArgument

/-- SET_GATE_CONFIG (R87). -/
def execSetGateConfig (initiator privileged threshold budgetOn exhaust : Byte) (s : State) : Outcome :=
  runCommand .setGateConfig (.setGateConfig initiator privileged threshold budgetOn exhaust)
    (setGateConfigBody initiator privileged threshold budgetOn exhaust) s

/-- LOAD_BUDGET's checks and effect (R94). -/
def loadBudgetBody (initiator : Byte) (remaining next : BitVec 32) (s : State) : Answer :=
  match indexArg initiator with
  | some i => done (s.putGate i { s.gate i with remaining := remaining.toNat, next := next.toNat })
  | none => refuse s .badArgument

/-- LOAD_BUDGET (R94). -/
def execLoadBudget (initiator : Byte) (remaining next : BitVec 32) (s : State) : Outcome :=
  runCommand .loadBudget (.loadBudget initiator remaining next) (loadBudgetBody initiator remaining next) s

/-- R198: the 12 result bytes of READ_GATE. -/
def Gate.bytes (g : Gate) (laneHolds : Bool) : List Byte :=
  [g.state.code, g.flags laneHolds, BitVec.ofNat 8 g.tripThreshold, BitVec.ofNat 8 g.tripCount]
    ++ bytesOf 4 g.remaining ++ bytesOf 4 g.next

/-- READ_GATE's reply (R99). -/
def readGateBody (initiator : Byte) (s : State) : Answer :=
  match indexArg initiator with
  | some i => done s ((s.gate i).bytes (s.lane i).isSome)
  | none => refuse s .badArgument

/-- READ_GATE (R99). -/
def execReadGate (initiator : Byte) (s : State) : Outcome :=
  runCommand .readGate (.readGate initiator) (readGateBody initiator) s

/-- R198: the 12 result bytes of READ_COUNTERS. -/
def Gate.counterBytes (g : Gate) : List Byte :=
  bytesOf 4 g.admitted.toNat ++ bytesOf 4 g.refused.toNat ++ bytesOf 4 g.claims.toNat

/-- READ_COUNTERS's reply and, with clear yes, its clearing (R98). -/
def readCountersBody (initiator clear : Byte) (s : State) : Answer :=
  match indexArg initiator, choiceArg clear with
  | some i, some true =>
    done (s.putGate i { s.gate i with admitted := 0, refused := 0, claims := 0 }) (s.gate i).counterBytes
  | some i, some false => done s (s.gate i).counterBytes
  | _, _ => refuse s .badArgument

/-- READ_COUNTERS (R98). -/
def execReadCounters (initiator clear : Byte) (s : State) : Outcome :=
  runCommand .readCounters (.readCounters initiator clear) (readCountersBody initiator clear) s

end Sys2Proof.Machine
end

