-- ==== Sys2Proof/Machine/Ports.lean ====
section
/-! DEFINITION. The upstream and downstream ports and the Transit Tracker: PRESENT_REQUEST, SEND, DOWNSTREAM_RESPONSE,
DEADLINE_EXPIRY, FORCED_TIMEOUT and DEPARTURE. A happening whose condition does not hold does not take place, and leaves
the state as it is (assumption log 9). -/

namespace Sys2Proof.Machine

/-- PRESENT_REQUEST (R101): on an empty lane the lane holds the request from then on. While it holds one, the
interconnect holds the next back and the part does not see it. -/
def execPresentRequest (r : Request) (s : State) : Outcome :=
  match s.lane r.initiator with
  | none => .next (s.putLane r.initiator (some r))
  | some _ => .next s

/-- R113: the deadline of a slot sent now, none while the response timeout is 0. -/
def State.newDeadline (s : State) : Option Nat :=
  if s.responseTimeout = 0 then none else some (s.now + s.responseTimeout)

/-- R104: the downstream request of a slot. -/
def downstreamRequest (k : SlotNo) (a : SlotAccess) (p : Payload) : DownstreamRequest :=
  { transitTag := k, kind := a.kind, addr := a.addr, length := a.length, data := p.data, enables := p.enables }

/-- R112: the head of the forward queue is handed to the memory controller and becomes OUTSTANDING, its write data and
byte enables released and its deadline set. -/
def State.sendHead (s : State) (k : SlotNo) (rest : List SlotNo) (a : SlotAccess) (p : Payload)
    (link : Option EntryIndex) : State :=
  let t := (s.putForward rest).putSlot k (.outstanding a link s.newDeadline)
  { t with sentDown := t.sentDown ++ [downstreamRequest k a p] }

/-- SEND (R112). While drain forcing is on, the slot times out in the happening of its sending (R119). -/
def execSend (s : State) : Outcome :=
  match s.forwardQueue with
  | [] => .next s
  | k :: rest =>
    match s.slot k with
    | .queued a p link =>
      let t := s.sendHead k rest a p link
      .next (if s.restarting && s.long.drainForcing then t.timeOut k else t)
    | _ => .next s

/-- DOWNSTREAM_RESPONSE (R105, R114 to R117): the answer of an OUTSTANDING slot, a late response for a slot that timed
out, or a stray response. -/
def execDownstreamResponse (tag : SlotNo) (status : RespStatus) (data : List Byte) (s : State) : Outcome :=
  match s.slot tag with
  | .outstanding a link _ =>
    let t := s.putSlot tag (.ready a ⟨[], []⟩ (memoryResponse a status data) false)
    match status with
    | .okay => .next (t.confirmClaim link)
    | .error => .next (t.voidClaim a link)
  | .ready a p r true => .next ((s.putSlot tag (.ready a p r false)).raise (.lateResponse tag))
  | .orphaned _ => .next ((s.putSlot tag .free).raise (.lateResponse tag))
  | .free | .queued _ _ _ | .ready _ _ _ false => .next (s.raise (.strayResponse tag))

/-- DEADLINE_EXPIRY (R118): the time base reaches the deadline of an OUTSTANDING slot, and the slot times out. It does not
reach it past another timed happening that falls due before. -/
def execDeadlineExpiry (k : SlotNo) (s : State) : Outcome :=
  match s.slot k with
  | .outstanding _ _ (some d) => if s.canReach d then .next ((s.putNow (max s.now d)).timeOut k) else .next s
  | _ => .next s

/-- FORCED_TIMEOUT (R119): once drain forcing is on, an OUTSTANDING slot times out, whether it had a deadline or
none. -/
def execForcedTimeout (k : SlotNo) (s : State) : Outcome :=
  if s.restarting && s.long.drainForcing then .next (s.timeOut k) else .next s

/-- R121: an initiator is ready to receive when the head of its return-order list is READY. -/
def State.readyToReceive (s : State) (i : Initiator) : Bool :=
  match s.returnList i with
  | [] => false
  | k :: _ => match s.slot k with
    | .ready _ _ _ _ => true
    | _ => false

/-- R121: the first initiator ready to receive, from the response pointer upward. -/
def State.nextReceiver (s : State) : Option Initiator := (rotation s.responsePointer).find? s.readyToReceive

/-- R103: the response of a READY slot as it leaves: status and, for an OKAY read, its data. -/
def upstreamResponse (a : SlotAccess) (r : Response) : UpstreamResponse :=
  { initiator := a.initiator, tag := a.tag, status := r.status, data := r.data }

/-- R122: the response of slot `k`, head of the list of initiator `i`, leaves. The slot is freed, or becomes ORPHANED
when it carries the orphan mark. -/
def State.depart (s : State) (i : Initiator) (k : SlotNo) (rest : List SlotNo) (a : SlotAccess) (r : Response)
    (orphan : Bool) : State :=
  let t := ((s.putReturnList i rest).putSlot k (if orphan then .orphaned a else .free)).putResponsePointer (i + 1)
  { t with leftUp := t.leftUp ++ [upstreamResponse a r] }

/-- DEPARTURE (R122). -/
def execDeparture (s : State) : Outcome :=
  match s.nextReceiver with
  | none => .next s
  | some i =>
    match s.returnList i with
    | [] => .next s
    | k :: rest =>
      match s.slot k with
      | .ready a _ r orphan => .next (s.depart i k rest a r orphan)
      | _ => .next s

end Sys2Proof.Machine
end

