-- ==== Sys2Proof/Machine/QueueCommands.lean ====
section
/-! DEFINITION. The commands of the Event Queue: FETCH_EVENTS and ACK_EVENTS. -/

namespace Sys2Proof.Machine

/-- R149: the `n` oldest records are marked fetched. -/
def EventQueue.markFetched (q : EventQueue) (n : Nat) : EventQueue :=
  { q with records := (q.records.take n).map (fun r => { r with fetched := true }) ++ q.records.drop n }

/-- R198, R199: the 129 result bytes of FETCH_EVENTS: the number returned, the records oldest first, and 16 bytes of 0 for
each place beyond them. -/
def fetchBytes (returned : List Record) : List Byte :=
  BitVec.ofNat 8 returned.length
    :: (returned.flatMap Record.bytes ++ List.replicate (16 * (8 - returned.length)) 0)

/-- FETCH_EVENTS's check, reply and marks (R149). -/
def fetchEventsBody (count : Byte) (s : State) : Answer :=
  if count.toNat = 0 ∨ 8 < count.toNat then refuse s .badArgument
  else done (s.putQueue (s.queue.markFetched count.toNat)) (fetchBytes (s.queue.records.take count.toNat))

/-- FETCH_EVENTS (R149). -/
def execFetchEvents (count : Byte) (s : State) : Outcome :=
  runCommand .fetchEvents (.fetchEvents count) (fetchEventsBody count) s

/-- R152: the place of the record with a sequence number, counted from the oldest. -/
def EventQueue.position (q : EventQueue) (n : BitVec 16) : Option Nat :=
  q.records.findIdx? fun r => r.sequence == n

/-- R147: the LOST record that an acknowledgement leaving room appends while the lost tally is nonzero, which then becomes
0. -/
def EventQueue.reportLost (q : EventQueue) : EventQueue :=
  if q.lostTally ≠ 0 ∧ q.records.length < Config.queueCapacity then
    { q.append (.lost q.lostTally) with lostTally := 0 }
  else q

/-- R152: the queue after every record from the oldest through the one at place `p` has been removed. -/
def EventQueue.acknowledge (q : EventQueue) (p : Nat) : EventQueue :=
  { q with records := q.records.drop (p + 1) }.reportLost

/-- R198: the 4 result bytes of ACK_EVENTS: the number removed, whether a record is held, and the newest one's sequence. -/
def ackBytes (removed : Nat) (q : EventQueue) : List Byte :=
  BitVec.ofNat 8 removed :: match q.records.getLast? with
    | some r => 1 :: bytesOf 2 r.sequence.toNat
    | none => [0, 0, 0]

/-- ACK_EVENTS's checks, effect and reply (R152). -/
def ackEventsBody (n : BitVec 16) (s : State) : Answer :=
  match s.queue.position n with
  | none => refuse s .noSuchRecord
  | some p =>
    match s.queue.records[p]? with
    | some r =>
      if r.fetched then
        done (s.putQueue (s.queue.acknowledge p)) (ackBytes (p + 1) (s.queue.acknowledge p))
      else refuse s .notFetched
    | none => refuse s .noSuchRecord

/-- ACK_EVENTS (R152). -/
def execAckEvents (n : BitVec 16) (s : State) : Outcome :=
  runCommand .ackEvents (.ackEvents n) (ackEventsBody n) s

end Sys2Proof.Machine
end

