-- ==== Sys2Proof/Machine/Restart.lean ====
section
/-! DEFINITION. COLD_RESET, and the steps of a running RESTART: DRAIN_LIMIT, CLEAR_STEP and RESUME_STEP. -/

namespace Sys2Proof.Machine

/-- COLD_RESET (R126, R157, R175 and the cold values of every block): the state right after reset, but for what the input
does not reach: the time base, the level of the SEL line, what has already been handed outside, and the commands that
wait (assumption log 10). -/
def execColdReset (s : State) : Outcome :=
  .next { State.reset with
    sweep := .cold s.now
    port := .cold s.port.selHigh s.port.replyCount
    now := s.now
    sentDown := s.sentDown
    leftUp := s.leftUp
    pending := s.pending }

/-- DRAIN_LIMIT (R192): at the stop time plus 10,000 µs with the drain not complete, drain forcing becomes yes. The time
base does not reach that time past another timed happening that falls due before. -/
def execDrainLimit (s : State) : Outcome :=
  match s.long.stopTime with
  | some t =>
    if s.restarting && !s.drainComplete && !s.long.drainForcing && s.canReach (t + Config.drainLimit) then
      .next ((s.putNow (max s.now (t + Config.drainLimit))).putLong { s.long with drainForcing := true })
    else .next s
  | none => .next s

/-- R31: a CLAIMED entry is freed; PINNED and BARRED entries are kept. -/
def Entry.withoutClaim (x : Entry) : Entry := if x.isClaimed then .free else x

/-- R193: the Granule Table's, the Transit Tracker's, the Event Queue's and the Gate File's parts of the clear step. -/
def State.clear (s : State) : State :=
  { s with
    table := s.table.map Entry.withoutClaim
    slots := s.slots.map fun _ => .free
    returnLists := s.returnLists.map fun _ => []
    forwardQueue := []
    queue := { s.queue with records := [], lostTally := 0 }
    gates := s.gates.map fun g => { g with tripCount := 0 }
    long := { s.long with affected := s.table.count Entry.isClaimed, cleared := true } }

/-- CLEAR_STEP (R193): taken once the drain of a running RESTART is complete. -/
def execClearStep (s : State) : Outcome :=
  if s.restarting && s.drainComplete && !s.long.cleared then .next s.clear else .next s

/-- R194: RESTARTED is queued with the number of claims freed, the interval timer restarts, and the long-operation record
returns to its cold values, which ends the fence and resumes admission. -/
def State.resume (s : State) : State :=
  ((s.putSweep (s.sweep.restartTimer s.now)).putLong .cold).raise (.restarted s.long.affected)

/-- RESUME_STEP (R194): taken after the clear step. -/
def execResumeStep (s : State) : Outcome :=
  if s.restarting && s.long.cleared then .next s.resume else .next s

end Sys2Proof.Machine
end

