-- ==== Sys2Proof/Machine/TableCommands.lean ====
section
/-! DEFINITION. The commands of the Granule Table: INSERT_ENTRY, UPDATE_ENTRY, DELETE_ENTRY, FIND_ENTRY and READ_ENTRY. -/

namespace Sys2Proof.Machine

/-- R24: the entry an INSERT_ENTRY of this kind places; none for FREE and CLAIMED, which it does not take (R23). -/
def insertedEntry (m : EntryImage) (k : Key) : Option Entry :=
  match m.kind with
  | .pinned => some (.pinned k { owner := m.owner, share := shareWithout m.share m.owner, strict := m.strict })
  | .barred => some (.barred k)
  | .free => none
  | .claimed => none

/-- INSERT_ENTRY's checks (R23) and effect (R24). -/
def insertEntryBody (m : EntryImage) (s : State) : Answer :=
  match imageKey m with
  | none => refuse s .badArgument
  | some k =>
    match insertedEntry m k with
    | none => refuse s .badArgument
    | some x =>
      if (s.window k.window).size ≤ k.granule then refuse s .range
      else if (s.lookup k).isSome then refuse s .duplicate
      else match s.freeWay k with
        | none => refuse s .bucketFull
        | some e => done (s.putEntry e x) (bytesOf 2 e.val)

/-- INSERT_ENTRY (R23, R24). -/
def execInsertEntry (m : EntryImage) (s : State) : Outcome :=
  runCommand .insertEntry (.insertEntry m) (insertEntryBody m) s

/-- R26: a CLAIMED or PINNED entry with its owner, share set and strict rewritten, converted to PINNED when asked. -/
def Entry.updated (m : EntryImage) (convert : Bool) : Entry → Entry
  | .claimed k c =>
    if convert then .pinned k { owner := m.owner, share := shareWithout m.share m.owner, strict := m.strict }
    else .claimed k { c with owner := m.owner, share := shareWithout m.share m.owner, strict := m.strict }
  | .pinned k _ => .pinned k { owner := m.owner, share := shareWithout m.share m.owner, strict := m.strict }
  | x => x

/-- Whether an entry is BARRED. -/
def Entry.isBarred : Entry → Bool
  | .barred _ => true
  | _ => false

/-- UPDATE_ENTRY's checks (R25) and effect (R26). -/
def updateEntryBody (m : EntryImage) (convert : Byte) (s : State) : Answer :=
  match imageKey m, choiceArg convert with
  | some k, some conv =>
    match s.lookup k with
    | none => refuse s .notFound
    | some e =>
      if (s.entry e).isBarred then refuse s .badArgument
      else if (s.entry e).claimSlot?.isSome then refuse s .pending
      else done (s.putEntry e ((s.entry e).updated m conv)) (bytesOf 2 e.val)
  | _, _ => refuse s .badArgument

/-- UPDATE_ENTRY (R25, R26). -/
def execUpdateEntry (m : EntryImage) (convert : Byte) (s : State) : Outcome :=
  runCommand .updateEntry (.updateEntry m convert) (updateEntryBody m convert) s

/-- DELETE_ENTRY's checks and effect (R27): the reply is the image of the entry just before it was freed. -/
def deleteEntryBody (window : Byte) (granule : BitVec 24) (s : State) : Answer :=
  match keyArg window granule with
  | none => refuse s .badArgument
  | some k =>
    match s.lookup k with
    | none => refuse s .notFound
    | some e => done (s.freeEntry e) (s.entryBytes e)

/-- DELETE_ENTRY (R27). -/
def execDeleteEntry (window : Byte) (granule : BitVec 24) (s : State) : Outcome :=
  runCommand .deleteEntry (.deleteEntry window granule) (deleteEntryBody window granule) s

/-- FIND_ENTRY's reply (R28). -/
def findEntryBody (window : Byte) (granule : BitVec 24) (s : State) : Answer :=
  match keyArg window granule with
  | none => refuse s .badArgument
  | some k =>
    match s.lookup k with
    | none => refuse s .notFound
    | some e => done s (s.entryBytes e)

/-- FIND_ENTRY (R28). -/
def execFindEntry (window : Byte) (granule : BitVec 24) (s : State) : Outcome :=
  runCommand .findEntry (.findEntry window granule) (findEntryBody window granule) s

/-- READ_ENTRY's reply (R29); an index above 1023 is refused. -/
def readEntryBody (index : BitVec 16) (s : State) : Answer :=
  if h : index.toNat < 1024 then done s (s.entryBytes ⟨index.toNat, h⟩) else refuse s .badArgument

/-- READ_ENTRY (R29). -/
def execReadEntry (index : BitVec 16) (s : State) : Outcome :=
  runCommand .readEntry (.readEntry index) (readEntryBody index) s

end Sys2Proof.Machine
end

