-- ==== Sys2Proof/Machine/UnitCommands.lean ====
section
/-! DEFINITION. The commands of the Command Unit, the port and the timers: SET_TIMERS, STATUS, REPEAT_REPLY, ABORT, PURGE,
REOWN, SWEEP_NOW and RESTART. -/

namespace Sys2Proof.Machine

/-- R113, R129: both parts of SET_TIMERS. A changed interval is compared with the elapsed count from the next millisecond
on, so an expiry not yet taken at the present boundary is not made; a repeated one leaves the schedule as it was. -/
def setTimersBody (timeout interval : BitVec 16) (s : State) : Answer :=
  done { s with
    responseTimeout := timeout.toNat
    sweep := { s.sweep with
      interval := interval.toNat
      expiryDue := s.sweep.expiryDue && decide (interval.toNat = s.sweep.interval) } }

/-- SET_TIMERS (R113, R129). -/
def execSetTimers (timeout interval : BitVec 16) (s : State) : Outcome :=
  runCommand .setTimers (.setTimers timeout interval) (setTimersBody timeout interval) s

/-- R173, R198: the 14 result bytes of STATUS. -/
def State.statusBytes (s : State) : List Byte :=
  s.long.kind.code :: s.statusFlags
    :: (bytesOf 2 s.long.cursor ++ bytesOf 2 s.long.affected ++ bytesOf 2 s.long.skipped ++ bytesOf 2 s.sweep.cursor
        ++ [BitVec.ofNat 8 s.queue.records.length] ++ bytesOf 2 s.queue.lostTally
        ++ [BitVec.ofNat 8 s.occupiedSlots])

/-- STATUS's reply (R173). -/
def statusBody (s : State) : Answer := done s s.statusBytes

/-- STATUS (R173). -/
def execStatus (s : State) : Outcome := runCommand .status .status statusBody s

/-- REPEAT_REPLY's reply (R167): the stored code, status and results. -/
def repeatReplyBody (s : State) : Answer :=
  match s.port.lastReply with
  | none => refuse s .noReply
  | some r => done s (r.code :: r.status.code :: r.results)

/-- REPEAT_REPLY (R167). -/
def execRepeatReply (s : State) : Outcome := runCommand .repeatReply .repeatReply repeatReplyBody s

/-- ABORT's checks and effect (R185). -/
def abortBody (s : State) : Answer :=
  match s.long.kind with
  | .none => refuse s .noLongCommand
  | .sweep => refuse s .notAbortable
  | .purge => done (s.putLong { s.long with abortRequested := true })
  | .reown => done (s.putLong { s.long with abortRequested := true })
  | .restart => refuse s .restarting

/-- ABORT (R185). -/
def execAbort (s : State) : Outcome := runCommand .abort .abort abortBody s

/-- R172: a long command is accepted only while none is running. -/
def acceptLong (s : State) (effect : State → State) : Answer :=
  if s.long.kind = .none then accept (effect s) else refuse s .busy

/-- PURGE's checks and acceptance (R179, R177). -/
def purgeBody (windowFilter ownerFilter kindSet : Byte) (s : State) : Answer :=
  match filterArg windowFilter, filterArg ownerFilter, kindSetArg kindSet with
  | some w, some o, some ks =>
    acceptLong s fun s => s.putLong { LongOp.cold with kind := .purge, windowFilter := w, ownerFilter := o, kindSet := some ks }
  | _, _, _ => refuse s .badArgument

/-- PURGE (R179). -/
def execPurge (windowFilter ownerFilter kindSet : Byte) (s : State) : Outcome :=
  runCommand .purge (.purge windowFilter ownerFilter kindSet) (purgeBody windowFilter ownerFilter kindSet) s

/-- REOWN's checks and acceptance (R182, R177). -/
def reownBody (source target windowFilter : Byte) (s : State) : Answer :=
  match indexArg source, indexArg target, filterArg windowFilter with
  | some i, some j, some w =>
    if i = j then refuse s .badArgument
    else acceptLong s fun s =>
      s.putLong { LongOp.cold with kind := .reown, windowFilter := w, source := some i, target := some j }
  | _, _, _ => refuse s .badArgument

/-- REOWN (R182). -/
def execReown (source target windowFilter : Byte) (s : State) : Outcome :=
  runCommand .reown (.reown source target windowFilter) (reownBody source target windowFilter) s

/-- R188: which sweep a SWEEP_NOW accepted now waits for. -/
def Sweep.awaitedNow (w : Sweep) : AwaitedSweep := if w.running then .next else .current

/-- SWEEP_NOW's acceptance (R188): a sweep is asked for. -/
def sweepNowBody (s : State) : Answer :=
  acceptLong s fun s =>
    (s.putLong { LongOp.cold with kind := .sweep, awaited := some s.sweep.awaitedNow }).putSweep s.sweep.request

/-- SWEEP_NOW (R188). -/
def execSweepNow (s : State) : Outcome := runCommand .sweepNow .sweepNow sweepNowBody s

/-- RESTART's acceptance, the stop step (R190): the kind RESTART stops admission and raises the fence, the sweep is stopped
and the timer held. -/
def restartBody (s : State) : Answer :=
  acceptLong s fun s =>
    (s.putLong { LongOp.cold with kind := .restart, stopTime := some s.now }).putSweep s.sweep.stop

/-- RESTART (R190). -/
def execRestart (s : State) : Outcome := runCommand .restart .restart restartBody s

end Sys2Proof.Machine
end

