-- ==== Sys2Proof/Machine/Walks.lean ====
section
/-! DEFINITION. The walks of the Command Unit: PURGE_STEP, REOWN_STEP and WALK_END_ABORTED. -/

namespace Sys2Proof.Machine

/-- R180: an entry's kind is in a kind set. -/
def KindSet.has (ks : KindSet) : Entry → Bool
  | .free => false
  | .claimed _ _ => ks.claimed
  | .pinned _ _ => ks.pinned
  | .barred _ => ks.barred

/-- The owner of a CLAIMED or PINNED entry. -/
def Entry.owner? : Entry → Option Initiator
  | .claimed _ c => some c.owner
  | .pinned _ p => some p.owner
  | _ => none

/-- R180, R183: a window filter is any, or equals the entry's window. -/
def passesWindow (filter : Option WindowNo) (x : Entry) : Bool :=
  match filter with
  | none => true
  | some w => x.inWindow w

/-- R180: an owner filter is any, or the entry is CLAIMED or PINNED and owned by the filter's initiator. -/
def passesOwner (filter : Option Initiator) (x : Entry) : Bool :=
  match filter with
  | none => true
  | some i => x.owner? == some i

/-- R180: the running PURGE matches an entry. -/
def LongOp.purges (l : LongOp) (x : Entry) : Bool :=
  match l.kindSet with
  | some ks => ks.has x && passesWindow l.windowFilter x && passesOwner l.ownerFilter x
  | none => false

/-- A walk step's entry effect with the affected count raised by 1. -/
def State.countAffected (s : State) : State := s.putLong { s.long with affected := s.long.affected + 1 }

/-- A walk step that counts a skipped pending entry (R183). -/
def State.countSkipped (s : State) : State := s.putLong { s.long with skipped := s.long.skipped + 1 }

/-- R180: the effect of a PURGE step on the entry at index `e`. -/
def State.purgeEntry (s : State) (e : EntryIndex) : State :=
  if s.long.purges (s.entry e) then (s.freeEntry e).countAffected else s

/-- R183: the owner becomes `target`, which leaves the share set if it was in it; nothing else of the entry changes. -/
def Entry.reowned (target : Initiator) : Entry → Entry
  | .claimed k c => .claimed k { c with owner := target, share := shareWithout c.share target }
  | .pinned k p => .pinned k { p with owner := target, share := shareWithout p.share target }
  | x => x

/-- R183: the effect of a REOWN step on the entry at index `e`: changed and counted, or skipped and counted while
pending, where its owner and window match. -/
def State.reownEntry (s : State) (e : EntryIndex) : State :=
  match s.long.source, s.long.target with
  | some source, some target =>
    let x := s.entry e
    if x.owner? = some source ∧ passesWindow s.long.windowFilter x = true then
      if x.claimSlot?.isSome then s.countSkipped else (s.putEntry e (x.reowned target)).countAffected
    else s
  | _, _ => s

/-- PURGE_STEP (R180). -/
def execPurgeStep (s : State) : Outcome :=
  if h : (s.long.kind = .purge ∧ s.long.abortRequested = false) ∧ s.long.cursor < 1024 then
    .next ((s.purgeEntry ⟨s.long.cursor, h.2⟩).advanceWalk .purge)
  else .next s

/-- REOWN_STEP (R183). -/
def execReownStep (s : State) : Outcome :=
  if h : (s.long.kind = .reown ∧ s.long.abortRequested = false) ∧ s.long.cursor < 1024 then
    .next ((s.reownEntry ⟨s.long.cursor, h.2⟩).advanceWalk .reown)
  else .next s

/-- WALK_END_ABORTED (R185): once an abort is requested, the walk ends in place of its next step. -/
def execWalkEndAborted (s : State) : Outcome :=
  if s.long.abortRequested then
    match s.long.kind with
    | .purge => .next (s.endLong .purge .aborted)
    | .reown => .next (s.endLong .reown .aborted)
    | _ => .next s
  else .next s

end Sys2Proof.Machine
end

