-- ==== Sys2Proof/Machine/WindowCommands.lean ====
section
/-! DEFINITION. The commands of the Window Map: SET_WINDOW, ENABLE_WINDOW, READ_WINDOW and SET_OUTSIDE. -/

namespace Sys2Proof.Machine

/-- SET_WINDOW's checks (R40) and effect (R42). -/
def setWindowBody (window : Byte) (m : WindowImage) (s : State) : Answer :=
  match indexArg window with
  | none => refuse s .badArgument
  | some w =>
    if !imageAdmissible m then refuse s .badArgument
    else if !imageFits m then refuse s .range
    else if imageDiffers m (s.window w) && ((s.window w).enabled || decide (0 < s.entryCount w)) then
      refuse s .windowInUse
    else done (s.putWindow w (imageWrite m (s.window w)))

/-- SET_WINDOW (R40 to R42). -/
def execSetWindow (window : Byte) (m : WindowImage) (s : State) : Outcome :=
  runCommand .setWindow (.setWindow window m) (setWindowBody window m) s

/-- R43: the window's range meets the range of another window that is enabled. -/
def State.overlaps (s : State) (w : WindowNo) : Bool :=
  (List.finRange 16).any fun v => !(v == w) && (s.window v).enabled && (s.window w).meets (s.window v)

/-- ENABLE_WINDOW's checks and effect, on (R43) and off (R44). -/
def enableWindowBody (window choice : Byte) (s : State) : Answer :=
  match indexArg window, choiceArg choice with
  | some w, some true =>
    if (s.window w).size = 0 then refuse s .range
    else if s.overlaps w then refuse s .overlap
    else done (s.putWindow w { s.window w with enabled := true })
  | some w, some false => done (s.putWindow w { s.window w with enabled := false })
  | _, _ => refuse s .badArgument

/-- ENABLE_WINDOW (R43, R44). -/
def execEnableWindow (window choice : Byte) (s : State) : Outcome :=
  runCommand .enableWindow (.enableWindow window choice) (enableWindowBody window choice) s

/-- READ_WINDOW's reply (R45, R198): the window image, its entry count and the outside image. -/
def readWindowBody (window : Byte) (s : State) : Answer :=
  match indexArg window with
  | none => refuse s .badArgument
  | some w => done s ((s.window w).image.bytes ++ bytesOf 2 (s.entryCount w) ++ s.outside.image.bytes)

/-- READ_WINDOW (R45). -/
def execReadWindow (window : Byte) (s : State) : Outcome :=
  runCommand .readWindow (.readWindow window) (readWindowBody window) s

/-- SET_OUTSIDE's effect (R47). -/
def setOutsideBody (m : OutsideImage) (s : State) : Answer :=
  done { s with outside := { action := m.action, style := m.style, fill := m.fill } }

/-- SET_OUTSIDE (R47). -/
def execSetOutside (m : OutsideImage) (s : State) : Outcome :=
  runCommand .setOutside (.setOutside m) (setOutsideBody m) s

end Sys2Proof.Machine
end

