-- ==== Sys2Proof/Machine/Dispatch.lean ====
section
/-! DEFINITION. The meaning of each command of the opcode table, one arm a row, in the order of the table. -/

namespace Sys2Proof.Machine

def exec (i : Instr) (s : State) : Host.Outcome State Fault Refusal :=
  match i with
  | .coldReset => Sys2Proof.Machine.execColdReset s
  | .presentRequest request => Sys2Proof.Machine.execPresentRequest request s
  | .admission => Sys2Proof.Machine.execAdmission s
  | .send => Sys2Proof.Machine.execSend s
  | .downstreamResponse tag st data => Sys2Proof.Machine.execDownstreamResponse tag st data s
  | .deadlineExpiry slot => Sys2Proof.Machine.execDeadlineExpiry slot s
  | .forcedTimeout slot => Sys2Proof.Machine.execForcedTimeout slot s
  | .departure => Sys2Proof.Machine.execDeparture s
  | .intervalTimerExpiry => Sys2Proof.Machine.execIntervalTimerExpiry s
  | .sweepStep => Sys2Proof.Machine.execSweepStep s
  | .purgeStep => Sys2Proof.Machine.execPurgeStep s
  | .reownStep => Sys2Proof.Machine.execReownStep s
  | .walkEndAborted => Sys2Proof.Machine.execWalkEndAborted s
  | .drainLimit => Sys2Proof.Machine.execDrainLimit s
  | .clearStep => Sys2Proof.Machine.execClearStep s
  | .resumeStep => Sys2Proof.Machine.execResumeStep s
  | .selRise => Sys2Proof.Machine.execSelRise s
  | .checkMismatch code => Sys2Proof.Machine.execCheckMismatch code s
  | .unknownCommand code => Sys2Proof.Machine.execUnknownCommand code s
  | .setWindow window image => Sys2Proof.Machine.execSetWindow window image s
  | .enableWindow window choice => Sys2Proof.Machine.execEnableWindow window choice s
  | .readWindow window => Sys2Proof.Machine.execReadWindow window s
  | .setOutside image => Sys2Proof.Machine.execSetOutside image s
  | .setGate initiator st => Sys2Proof.Machine.execSetGate initiator st s
  | .setGateConfig initiator privileged threshold budgetOn exhaust => Sys2Proof.Machine.execSetGateConfig initiator privileged threshold budgetOn exhaust s
  | .loadBudget initiator remaining next => Sys2Proof.Machine.execLoadBudget initiator remaining next s
  | .readGate initiator => Sys2Proof.Machine.execReadGate initiator s
  | .readCounters initiator clear => Sys2Proof.Machine.execReadCounters initiator clear s
  | .insertEntry image => Sys2Proof.Machine.execInsertEntry image s
  | .updateEntry image convert => Sys2Proof.Machine.execUpdateEntry image convert s
  | .deleteEntry window granule => Sys2Proof.Machine.execDeleteEntry window granule s
  | .findEntry window granule => Sys2Proof.Machine.execFindEntry window granule s
  | .readEntry index => Sys2Proof.Machine.execReadEntry index s
  | .setTimers timeout interval => Sys2Proof.Machine.execSetTimers timeout interval s
  | .fetchEvents count => Sys2Proof.Machine.execFetchEvents count s
  | .ackEvents sequence => Sys2Proof.Machine.execAckEvents sequence s
  | .status => Sys2Proof.Machine.execStatus s
  | .repeatReply => Sys2Proof.Machine.execRepeatReply s
  | .abort => Sys2Proof.Machine.execAbort s
  | .purge windowFilter ownerFilter kindSet => Sys2Proof.Machine.execPurge windowFilter ownerFilter kindSet s
  | .reown source target windowFilter => Sys2Proof.Machine.execReown source target windowFilter s
  | .sweepNow => Sys2Proof.Machine.execSweepNow s
  | .restart => Sys2Proof.Machine.execRestart s
  | .selFall => Sys2Proof.Machine.execSelFall s
  | .sckCycle mdi => Sys2Proof.Machine.execSckCycle mdi s
  | .timerMillisecondBoundary => Sys2Proof.Machine.execTimerMillisecondBoundary s

end Sys2Proof.Machine
end

