-- ==== Sys2Proof/Machine/TimeBase.lean ====
section
/-! DEFINITION. The 1 µs time base while no command waits: what falls due is taken, and otherwise a tick passes
(assumption logs 2 and 3). -/

namespace Sys2Proof.Machine

/-- With no command waiting: the happening that is due is taken, or the time base moves on by 1 µs. -/
def tick (s : State) : Outcome :=
  match s.dueBy s.now with
  | some c => exec c s
  | none => .next (s.putNow (s.now + 1))

end Sys2Proof.Machine
end

