-- ==== Sys2Proof/Safety.lean ====
section
/-! DEFINITION. The laws the manual says its state always obeys, block by block, as predicates of a state. A safe run is
one whose every state obeys them all (`State.Lawful`). -/

namespace Sys2Proof.Machine

/-! ### Upstream Port and Window Map -/

/-- R101: lane n holds requests of initiator n. -/
def State.lanesLawful (s : State) : Prop :=
  ∀ i : Initiator, ∀ r ∈ s.lane i, r.initiator = i

/-- R32, R33: a window record's fields are in range, its base is a multiple of 2^k and its end at most 2^40, and only a
window with granules is enabled. -/
structure Window.Lawful (w : Window) : Prop where
  exponent : 12 ≤ w.exponent ∧ w.exponent ≤ 21
  size : w.size ≤ 1048576
  aligned : w.base.toNat % 2 ^ w.exponent = 0
  fits : w.base.toNat + w.size * 2 ^ w.exponent ≤ 2 ^ 40
  ageLimit : 1 ≤ w.ageLimit ∧ w.ageLimit ≤ 7
  nonempty : w.enabled = true → 0 < w.size

/-- R32, R33, R35: every window record is lawful, and no address lies in two enabled windows. -/
structure State.WindowsLawful (s : State) : Prop where
  each : ∀ w, (s.window w).Lawful
  disjoint : ∀ v w, v ≠ w → (s.window v).enabled = true → (s.window w).enabled = true →
    ∀ a, ¬((s.window v).covers a = true ∧ (s.window w).covers a = true)

/-! ### Granule Table -/

/-- R11: an entry's share set does not contain its owner. -/
def Entry.ownerNotSharer : Entry → Prop
  | .claimed _ c => shareHas c.share c.owner = false
  | .pinned _ p => shareHas p.share p.owner = false
  | _ => True

/-- R132: a CLAIMED entry that stays in the table holds an age of 0 to 6. -/
def Entry.ageInRange : Entry → Prop
  | .claimed _ c => c.age ≤ 6
  | _ => True

/-- R3, R4, R11, R23, R132: every non-FREE entry lies in a way of its key's bucket, no two have one key, every granule
number is below its window's size, no share set holds its owner, and ages are 0 to 6. -/
structure State.TableLawful (s : State) : Prop where
  inBucket : ∀ e k, (s.entry e).key? = some k → e ∈ k.ways
  unique : ∀ e e' k, (s.entry e).key? = some k → (s.entry e').key? = some k → e = e'
  belowSize : ∀ e k, (s.entry e).key? = some k → k.granule < (s.window k.window).size
  sharing : ∀ e, (s.entry e).ownerNotSharer
  ages : ∀ e, (s.entry e).ageInRange

/-! ### Gate File -/

/-- R79: the counts and amounts of a gate record are in range. -/
structure Gate.Lawful (g : Gate) : Prop where
  threshold : g.tripThreshold ≤ 255
  count : g.tripCount ≤ 255
  remaining : g.remaining < 2 ^ 32
  next : g.next < 2 ^ 32

/-- R79: every gate record is lawful. -/
def State.gatesLawful (s : State) : Prop := ∀ i, (s.gate i).Lawful

/-! ### Transit Tracker -/

/-- The access a slot holds. -/
def Slot.access? : Slot → Option SlotAccess
  | .free => none
  | .queued a _ _ => some a
  | .outstanding a _ _ => some a
  | .ready a _ _ _ => some a
  | .orphaned a => some a

/-- R107: the slot belongs in its initiator's return-order list: it is occupied and not ORPHANED. The initiator whose list
that is. -/
def Slot.listedFor : Slot → Option Initiator
  | .free => none
  | .queued a _ _ => some a.initiator
  | .outstanding a _ _ => some a.initiator
  | .ready a _ _ _ => some a.initiator
  | .orphaned _ => none

/-- Whether a slot is QUEUED. -/
def Slot.isQueued : Slot → Bool
  | .queued _ _ _ => true
  | _ => false

/-- R109, R111: each return-order list holds exactly its initiator's occupied, non-ORPHANED slots, each once, and the
forward queue exactly the QUEUED slots, each once. -/
structure State.OrdersLawful (s : State) : Prop where
  listed : ∀ i k, k ∈ s.returnList i ↔ (s.slot k).listedFor = some i
  listOnce : ∀ i, (s.returnList i).Nodup
  queued : ∀ k, k ∈ s.forwardQueue ↔ (s.slot k).isQueued = true
  queueOnce : s.forwardQueue.Nodup

/-- R15: a slot's claim link and an entry's claim slot are one association seen from its two ends, and the slot holds a
WRITE. -/
structure State.LinksLawful (s : State) : Prop where
  bothEnds : ∀ k e, (s.slot k).link? = some e ↔ (s.entry e).claimSlot? = some k
  ofWrites : ∀ k e, (s.slot k).link? = some e → ∀ a ∈ (s.slot k).access?, a.kind = .write

/-! ### Event Queue -/

/-- R140, R145, R147, R150: at most 64 records with consecutive sequence numbers up to the next one, a lost tally that is
nonzero only while 64 are held, fetched records that run from the oldest and are at most 8, and repeat counts of 1 to
255. -/
structure EventQueue.Lawful (q : EventQueue) : Prop where
  depth : q.records.length ≤ 64
  numbered : ∀ n r, q.records[n]? = some r →
    r.sequence + BitVec.ofNat 16 (q.records.length - n) = q.nextSequence
  tally : q.lostTally ≠ 0 → q.records.length = 64
  tallyMax : q.lostTally ≤ 65535
  fetchedRun : ∀ n r, q.records[n]? = some r → r.fetched = true →
    n < 8 ∧ ∀ m r', m < n → q.records[m]? = some r' → r'.fetched = true
  repeats : ∀ r ∈ q.records, 1 ≤ r.repeats ∧ r.repeats ≤ 255

/-! ### Aging Sweep and Command Unit -/

/-- R128, R130: the cursor is 1024 exactly while no sweep runs, sweep pending is yes only while one runs, the released
count is at most the steps taken, and the elapsed count has stopped by 65,535. -/
structure Sweep.Lawful (w : Sweep) : Prop where
  cursor : w.running = true ↔ w.cursor < 1024
  cursorMax : w.cursor ≤ 1024
  pending : w.pending = true → w.running = true
  released : w.released ≤ w.cursor
  elapsed : w.elapsed ≤ 65535

/-- R176 to R190: what the long-operation record holds for each kind, beside the Aging Sweep it waits on or stops. -/
structure State.LongLawful (s : State) : Prop where
  walkCursor : s.long.kind = .purge ∨ s.long.kind = .reown → s.long.cursor < 1024
  counts : s.long.kind = .purge ∨ s.long.kind = .reown → s.long.affected + s.long.skipped ≤ s.long.cursor
  purge : s.long.kind = .purge → s.long.kindSet.isSome
  reown : s.long.kind = .reown → s.long.source.isSome ∧ s.long.target.isSome ∧ s.long.source ≠ s.long.target
  sweep : s.long.kind = .sweep → s.sweep.running = true ∧
    (s.long.awaited = some .current ∨ (s.long.awaited = some .next ∧ s.sweep.pending = true))
  restart : s.long.kind = .restart → s.long.stopTime.isSome ∧ s.sweep.running = false ∧ s.sweep.expiryDue = false
  forcing : s.long.drainForcing = true → s.long.kind = .restart
  cleared : s.long.cleared = true → s.long.kind = .restart ∧ ∀ k, s.slot k = .free

/-! ### The time base -/

/-- R118, R119, R128, R130, R192: nothing that the time base makes happen falls due before time `t`: no deadline of an
OUTSTANDING slot, no millisecond boundary of the interval timer, no expiry still to be taken, and, while RESTART's drain
runs, neither its limit nor a timeout that the limit forces. -/
structure State.NothingDueBefore (s : State) (t : Nat) : Prop where
  deadlines : ∀ k a link d, s.slot k = .outstanding a link (some d) → t ≤ d
  boundary : t ≤ s.sweep.boundary + 1000
  expiry : s.sweep.expiryDue = true → s.long.kind ≠ .restart → t ≤ s.sweep.boundary
  limit : s.long.kind = .restart → s.long.drainForcing = false → (∃ k, s.slot k ≠ .free ∧ ∀ a, s.slot k ≠ .orphaned a) →
    ∀ stop, s.long.stopTime = some stop → t ≤ stop + 10000
  forced : s.long.kind = .restart → s.long.drainForcing = true → (∃ k a link d, s.slot k = .outstanding a link d) →
    ∀ stop, s.long.stopTime = some stop → t ≤ stop + 10000

/-- Each timed happening is taken in the tick in which it falls due: none is overdue. -/
def State.TimesLawful (s : State) : Prop := s.NothingDueBefore s.now

/-! ### Management Port -/

/-- R160, R161: the receiver holds at most seven bits of a byte and fewer argument bytes than the code asks for, or all of
them in CHECK. -/
def Receiver.Lawful : Receiver → Prop
  | .idle => True
  | .code bits => bits.length < 8
  | .arguments c received bits => received.length < c.argBytes ∧ bits.length < 8
  | .check c received bits => received.length = c.argBytes ∧ bits.length < 8
  | .replying (.filler _ bit _) => bit < 8
  | .replying (.sending bits) => bits ≠ []
  | .trailing => True

/-- Whether the receiver awaits a reply that is not fixed yet. -/
def Receiver.awaiting : Receiver → Bool
  | .replying (.filler _ _ none) => true
  | _ => false

/-- R160, R162: the receiver is lawful, IDLE while SEL is high, and awaits a reply only while its frame is held. -/
structure State.PortLawful (s : State) : Prop where
  receiver : s.port.receiver.Lawful
  idle : s.port.selHigh = true → s.port.receiver = .idle
  awaited : s.port.receiver.awaiting = true → s.passedOn ≠ []

/-- All the laws at once. -/
structure State.Lawful (s : State) : Prop where
  lanes : s.lanesLawful
  windows : s.WindowsLawful
  table : s.TableLawful
  gates : s.gatesLawful
  orders : s.OrdersLawful
  links : s.LinksLawful
  queue : s.queue.Lawful
  sweep : s.sweep.Lawful
  long : s.LongLawful
  times : s.TimesLawful
  port : s.PortLawful

/-! ### The terms claims are stated in -/

/-- R162, R170: the Command Unit can take this command now, and no RESTART runs. -/
def State.readyFor (s : State) (i : Instr) : Prop :=
  s.canTake (.command i) = true ∧ s.restarting = false

/-- R162, R163: from `s` to `t` a frame was taken and its reply made. The oldest frame held is gone, a receiver that awaits
the reply and has no other frame before it holds it ready, and the lines and the filler count stay. With the last reply,
which is said beside it, that is every field of the port. -/
structure Replied (s t : State) (reply : Reply) : Prop where
  taken : t.passedOn = s.passedOn.drop 1
  made : t.port.replyMade = some reply
  ready : ∀ owed bit, s.port.receiver = .replying (.filler owed bit none) → s.passedOn.drop 1 = [] →
    t.port.receiver = .replying (.filler owed bit (some reply))
  waits : s.port.receiver.awaiting = false ∨ s.passedOn.drop 1 ≠ [] → t.port.receiver = s.port.receiver
  lines : t.port.selHigh = s.port.selHigh ∧ t.port.mdo = s.port.mdo ∧ t.port.replyCount = s.port.replyCount

/-- R162, R163, R166: a frame with this code was taken and its reply made, and stored as the last reply. -/
structure Answered (s t : State) (code : Byte) (status : Status) (results : List Byte) : Prop
    extends Replied s t ⟨status, results⟩ where
  stored : t.port.lastReply = some ⟨code, status, results⟩

/-- R50, R51, R67: the next admission takes request `r` from lane `i` into slot `k`. -/
structure State.Admits (s : State) (i : Initiator) (r : Request) (k : SlotNo) : Prop where
  chosen : s.chosenLane = some i
  request : s.lane i = some r
  own : r.initiator = i
  slot : s.freeSlot = some k

/-- R54: the request passes the form check. -/
def wellFormedRequest (r : Request) : Prop :=
  0 < r.length ∧ r.length ≤ 256 ∧ r.addr.toNat % 4096 + r.length ≤ 4096

/-- R49, R53, R67: what an admission of lane `i` into slot `k` does whatever its verdict: the lane is empty, the pointer
stands behind it, the slot is last in its initiator's list, and no other lane, list, slot or gate changes, nor any state
that an admission does not reach. -/
structure AdmittedTo (s t : State) (i : Initiator) (k : SlotNo) : Prop where
  lane : t.lane i = none
  lanes : ∀ j, j ≠ i → t.lane j = s.lane j
  pointer : t.roundRobin = i + 1
  list : t.returnList i = s.returnList i ++ [k]
  lists : ∀ j, j ≠ i → t.returnList j = s.returnList j
  slots : ∀ j, j ≠ k → t.slot j = s.slot j
  gates : ∀ j, j ≠ i → t.gate j = s.gate j
  rest : t = { s with lanes := t.lanes, roundRobin := t.roundRobin, table := t.table, gates := t.gates,
                      slots := t.slots, returnLists := t.returnLists, forwardQueue := t.forwardQueue,
                      queue := t.queue }

/-- R60, R88: this gate charges this request: a write, from a gate with budget on that is not privileged. -/
def Gate.meters (g : Gate) (r : Request) : Bool := !g.privileged && g.budgetOn && r.kind == .write

/-- R90: the write finds the gate exhausted: nothing remains, and there is nothing to reload. -/
def Gate.exhausted (g : Gate) (r : Request) : Prop := g.meters r = true ∧ g.remaining = 0 ∧ g.next = 0

/-- R89, R91: the pair a charge leaves in a gate that is not exhausted. Nothing remaining is reloaded before the charge; a
charge that takes all that remains reloads after it. -/
def Gate.paid (g : Gate) (r : Request) : Gate :=
  if g.meters r then
    if g.remaining = 0 then { g with remaining := g.next - r.length, next := 0 }
    else if r.length < g.remaining then { g with remaining := g.remaining - r.length }
    else { g with remaining := g.next, next := 0 }
  else g

/-- R89, R91: the BUDGET_RELOADED of that charge, where it reloads. -/
def Gate.payEvents (g : Gate) (r : Request) : List Event :=
  if g.meters r = true ∧ 0 < g.next ∧ g.remaining ≤ r.length then [.budgetReloaded r.initiator g.next] else []

/-- R97: the COUNTER_HIGH events of the counters that step from 2^31 − 1, in their order. -/
def highEvents (i : Initiator) (stepped : List (GateCounter × BitVec 32)) : List Event :=
  (stepped.filter fun p => p.2.toNat == 2 ^ 31 - 1).map fun p => .counterHigh i p.1

/-- R15: the claim link of a slot names a CLAIMED entry whose claim slot is this slot, which is what `LinksLawful` says of
every link. -/
def State.linkAgrees (s : State) (k : SlotNo) (link : Option EntryIndex) : Prop :=
  ∀ e, link = some e → ∃ key c, s.entry e = .claimed key c ∧ c.claimSlot = some k

/-- R17, R18: the CLAIM_VOIDED of a slot's link, with the slot's initiator and address and the entry's window. -/
def State.voidEvents (s : State) (a : SlotAccess) (link : Option EntryIndex) : List Event :=
  match link with
  | none => []
  | some e =>
    match s.entry e with
    | .claimed key _ => [.claimVoided a.initiator key.window a.addr e]
    | _ => []

/-- R132, R133: a sweep step on this entry releases it. -/
def State.releases (s : State) (e : EntryIndex) : Bool :=
  match s.entry e with
  | .claimed key c => c.claimSlot.isNone && !c.touched && decide ((s.window key.window).ageLimit ≤ c.age + 1)
  | _ => false

/-- R133: the RELEASED that a sweep step on this entry queues. -/
def State.releaseEvents (s : State) (e : EntryIndex) : List Event :=
  match s.entry e with
  | .claimed key _ =>
    if s.releases e && (s.window key.window).reportRelease then [.released key.window e key.granule] else []
  | _ => []

/-! ### Arguments as bytes -/

/-- The byte of an initiator or a window. -/
def indexByte (i : Fin 16) : Byte := BitVec.ofNat 8 i.val

/-- R198: the byte of a filter, 0xFF for any. -/
def filterByte (f : Option (Fin 16)) : Byte :=
  match f with
  | none => 0xFF
  | some i => indexByte i

/-- R198: the byte of a choice or a flag. -/
def choiceByte (b : Bool) : Byte := if b then 1 else 0

/-- R198: the byte of an exhaust action. -/
def exhaustByte (x : ExhaustAction) : Byte := choiceByte (x == .hold)

/-- R198: the byte of a PURGE kind set. -/
def kindSetByte (ks : KindSet) : Byte :=
  BitVec.ofNat 8 (flagAt 0 ks.claimed + flagAt 1 ks.pinned + flagAt 2 ks.barred)

/-- R40 checks 2 to 4, R199: a window image whose geometry and age limit SET_WINDOW admits. -/
structure AdmissibleImage (m : WindowImage) : Prop where
  exponent : 12 ≤ m.exponent.toNat ∧ m.exponent.toNat ≤ 21
  size : 1 ≤ m.size.toNat ∧ m.size.toNat ≤ 1048576
  ageLimit : 1 ≤ m.ageLimit.toNat ∧ m.ageLimit.toNat ≤ 7
  aligned : m.base.toNat % 2 ^ m.exponent.toNat = 0

/-- R169, R198 and the commands' own argument checks: the arguments that are refused BAD_ARGUMENT whatever the state of the
part. -/
def badArguments : Instr → Prop
  | .setWindow w m => 15 < w.toNat ∨ ¬ AdmissibleImage m
  | .enableWindow w c => 15 < w.toNat ∨ 1 < c.toNat
  | .readWindow w => 15 < w.toNat
  | .setGate i st => 15 < i.toNat ∨ 3 < st.toNat
  | .setGateConfig i p _ b x => 15 < i.toNat ∨ 1 < p.toNat ∨ 1 < b.toNat ∨ 1 < x.toNat
  | .loadBudget i _ _ => 15 < i.toNat
  | .readGate i => 15 < i.toNat
  | .readCounters i c => 15 < i.toNat ∨ 1 < c.toNat
  | .insertEntry m => 1048575 < m.granule.toNat ∨ m.kind = .free ∨ m.kind = .claimed
  | .updateEntry m c => 1048575 < m.granule.toNat ∨ 1 < c.toNat
  | .deleteEntry w g => 15 < w.toNat ∨ 1048575 < g.toNat
  | .findEntry w g => 15 < w.toNat ∨ 1048575 < g.toNat
  | .readEntry e => 1023 < e.toNat
  | .fetchEvents n => n.toNat = 0 ∨ 8 < n.toNat
  | .purge w o ks =>
    (15 < w.toNat ∧ w ≠ 0xFF) ∨ (15 < o.toNat ∧ o ≠ 0xFF) ∨ ks.toNat = 0 ∨ 7 < ks.toNat
  | .reown f t w => 15 < f.toNat ∨ 15 < t.toNat ∨ (15 < w.toNat ∧ w ≠ 0xFF) ∨ f = t
  | .coldReset | .presentRequest _ | .admission | .send | .downstreamResponse _ _ _ | .deadlineExpiry _
  | .forcedTimeout _ | .departure | .intervalTimerExpiry | .sweepStep | .purgeStep | .reownStep | .walkEndAborted
  | .drainLimit | .clearStep | .resumeStep | .selRise | .checkMismatch _ | .unknownCommand _ | .setOutside _
  | .setTimers _ _ | .ackEvents _ | .status | .repeatReply | .abort | .sweepNow | .restart | .selFall | .sckCycle _
  | .timerMillisecondBoundary => False

/-! ### Runs of commands -/

/-- The outcome of commands taken one after another, each by `exec`. -/
def execAll : List Instr → State → Outcome
  | [], s => .next s
  | c :: cs, s =>
    match exec c s with
    | .next t => execAll cs t
    | .fault r => .fault r
    | .refused r => .refused r

/-- R159: the SCK cycles that move these bytes in on MDI, most significant bit first. -/
def clockIn (bs : List Byte) : List Instr := (bs.flatMap bitsOf).map .sckCycle

/-- The bits MDO drives over SCK cycles with these MDI bits. -/
def mdoBits : List Bool → State → List (Option Bool)
  | [], _ => []
  | b :: bs, s =>
    match exec (.sckCycle b) s with
    | .next t => t.port.mdo :: mdoBits bs t
    | .fault _ => []
    | .refused _ => []

end Sys2Proof.Machine
end

