-- ==== Sys2Proof/Certificates/Slice0/Obligations.lean ====
section
/-! DEFINITION. The statements for the provers, by the block of the part they concern. A statement of what a command does says
that `exec` answers a next state, and which one. Values or behaviour that are the model's own choice are named in the
docstring with their assumption log entry. -/

open Sys2Proof Sys2Proof.Machine

/-! ### The machine as a whole -/

/-- The command at the front of the queue is the one a step runs, on the state with the rest of the queue. With no command
waiting a step is one tick of the time base: it takes what is due at the present time, and moves the time on by 1 µs only
when nothing is. The queue, the tick and the order of happenings that are due in one tick are the model's choice
(assumption logs 2 and 3): the drain limit, then the forced timeout of the lowest slot, then the deadline of the lowest
slot, then the expiry of the interval timer, then its millisecond boundary. -/
def Obligations.StepTakesFrontCommandOrTicks : Prop :=
  ∀ s : State,
    (∀ c rest, s.pending = c :: rest → step s = exec c { s with pending := rest })
    ∧ (s.pending = [] →
      let limitReached := s.long.kind = .restart ∧ ∃ stop, s.long.stopTime = some stop ∧ stop + 10000 ≤ s.now
      let limitDue := limitReached ∧ s.long.drainForcing = false ∧ ∃ k, s.slot k ≠ .free ∧ ∀ a, s.slot k ≠ .orphaned a
      let forced (k : SlotNo) := limitReached ∧ s.long.drainForcing = true ∧ ∃ a link d, s.slot k = .outstanding a link d
      let expired (k : SlotNo) := ∃ a link d, s.slot k = .outstanding a link (some d) ∧ d ≤ s.now
      let timerDue := s.sweep.expiryDue = true ∧ s.long.kind ≠ .restart ∧ s.sweep.boundary ≤ s.now
      (limitDue → step s = exec .drainLimit s)
      ∧ (∀ k, ¬ limitDue → forced k → (∀ j, j < k → ¬ forced j) → step s = exec (.forcedTimeout k) s)
      ∧ (∀ k, ¬ limitDue → (∀ j, ¬ forced j) → expired k → (∀ j, j < k → ¬ expired j) →
          step s = exec (.deadlineExpiry k) s)
      ∧ (¬ limitDue → (∀ j, ¬ forced j) → (∀ j, ¬ expired j) →
          (timerDue → step s = exec .intervalTimerExpiry s)
          ∧ (¬ timerDue → s.sweep.boundary + 1000 ≤ s.now → step s = exec .timerMillisecondBoundary s)
          ∧ (¬ timerDue → s.now < s.sweep.boundary + 1000 → step s = .next { s with now := s.now + 1 })))

/-- Every command of the table ends in a next state, whatever the state, and leaves the queue of waiting commands as it
is. That the part never stops is read from the manual, which names no such condition (assumption log 17), and a happening
whose condition does not hold leaves the state as it is (assumption log 9). -/
def Obligations.EveryCommandCompletes : Prop :=
  ∀ (c : Instr) (s : State), ∃ t, exec c s = .next t ∧ t.pending = s.pending

/-- Cold reset: every block takes its cold value, and the interval timer restarts with no expiry left to take; the place of
its last boundary and its due mark are the model's own way of saying it (assumption log 3). Not in the manual: MDO drives
nothing (log 12), the model's record of the newest reply is empty (logs 4 and 18), a command passed on and not yet taken is
dropped (log 10), and what the input does not reach stays (log 10): the time, the level of SEL, what has already been handed
outside, the filler count and the commands that wait. -/
def Obligations.ColdResetRestoresColdValues : Prop :=
  ∀ s : State, ∃ t, exec .coldReset s = .next t
    ∧ (∀ i, t.lane i = none) ∧ t.roundRobin = 0
    ∧ (∀ w, t.window w = ⟨false, 0, 0, 12, .opened, .quiet, 0, 1, false, .passUnowned, false, false⟩)
    ∧ t.outside = ⟨.pass, .quiet, 0⟩
    ∧ (∀ e, t.entry e = .free)
    ∧ (∀ i, t.gate i = ⟨.opened, false, 0, 0, false, .refuse, 0, 0, 0, 0, 0⟩)
    ∧ (∀ k, t.slot k = .free) ∧ (∀ i, t.returnList i = []) ∧ t.forwardQueue = []
    ∧ t.responseTimeout = 0 ∧ t.responsePointer = 0
    ∧ (t.sweep.interval = 0 ∧ t.sweep.elapsed = 0 ∧ t.sweep.running = false ∧ t.sweep.cursor = 1024
        ∧ t.sweep.pending = false ∧ t.sweep.released = 0 ∧ t.sweep.boundary = s.now ∧ t.sweep.expiryDue = false)
    ∧ t.queue = ⟨[], 0, 0⟩ ∧ t.attn = false
    ∧ t.port.receiver = .idle ∧ t.port.lastReply = none ∧ t.port.mdo = none ∧ t.port.replyMade = none ∧ t.passedOn = []
    ∧ t.long = ⟨.none, 0, none, none, none, none, none, 0, 0, false, none, none, false, false⟩
    ∧ t.now = s.now ∧ t.port.selHigh = s.port.selHigh ∧ t.port.replyCount = s.port.replyCount
    ∧ t.sentDown = s.sentDown ∧ t.leftUp = s.leftUp ∧ t.pending = s.pending

/-- The state after reset holds what COLD_RESET leaves, and obeys every law of the part. That no command waits and nothing has
been handed outside yet are values of the model's own fields, for which the manual has none (assumption log 18). -/
def Obligations.ResetIsColdAndLawful : Prop :=
  State.reset.pending = [] ∧ State.reset.sentDown = [] ∧ State.reset.leftUp = []
    ∧ exec .coldReset State.reset = .next State.reset ∧ State.reset.Lawful

/-! ### Admission -/

/-- The lane chosen is the first eligible one from the round-robin pointer upward, wrapping; the slot taken is the
lowest-numbered FREE one; and where no lane is eligible no admission takes place: the row leaves the state as it is
(assumption log 9). -/
def Obligations.AdmissionChoosesFirstEligibleLane : Prop :=
  ∀ s : State,
    let eligible (i : Initiator) : Prop :=
      (∃ r, s.lane i = some r) ∧ (s.gate i).state ≠ .held ∧ s.long.kind ≠ .restart ∧ ∃ k, s.slot k = .free
    (∀ i, s.chosenLane = some i ↔
      eligible i ∧ ∀ j : Initiator, (j - s.roundRobin).val < (i - s.roundRobin).val → ¬ eligible j)
    ∧ (∀ k, s.freeSlot = some k ↔ s.slot k = .free ∧ ∀ j, j < k → s.slot j ≠ .free)
    ∧ ((∀ i, ¬ eligible i) → exec .admission s = .next s)

/-- A malformed request is answered ERROR at once: MALFORMED and then COUNTER_HIGH for admitted are its only events, its
admitted counter its only count, and no window, table entry or budget is consulted. -/
def Obligations.AdmissionAnswersMalformed : Prop :=
  ∀ (s : State) (i : Initiator) (r : Request) (k : SlotNo), s.Admits i r k → ¬ wellFormedRequest r →
    ∃ t, exec .admission s = .next t ∧ AdmittedTo s t i k
      ∧ t.slot k = .ready (requestAccess r) (requestPayload r) ⟨.error, []⟩ false
      ∧ t.forwardQueue = s.forwardQueue ∧ t.table = s.table
      ∧ t.gate i = { s.gate i with admitted := (s.gate i).admitted + 1 }
      ∧ t.queue = (s.raiseAll (.malformed i r.addr r.length ::
          highEvents i [(.admitted, (s.gate i).admitted)])).queue

/-- The working verdict after the window and table steps, row by row. The key of an address names the enabled window that
covers it, the one there is, and the granule of that window it lies in. -/
def Obligations.WindowAndTableStepsGiveTheVerdict : Prop :=
  ∀ (s : State) (r : Request) (g : Gate),
    let covered (w : WindowNo) : Prop := (s.window w).enabled = true ∧ (s.window w).base.toNat ≤ r.addr.toNat
      ∧ r.addr.toNat < (s.window w).base.toNat + (s.window w).size * 2 ^ (s.window w).exponent
    (s.findKey r.addr = none ↔ ∀ w, ¬ covered w)
    ∧ (s.WindowsLawful → ∀ w, covered w →
        s.findKey r.addr = some ⟨w, (r.addr.toNat - (s.window w).base.toNat) / 2 ^ (s.window w).exponent⟩)
    ∧ (s.findKey r.addr = none → s.outside.action = .pass → s.windowStep r g = .start .pass none g)
    ∧ (s.findKey r.addr = none → s.outside.action = .refuse → s.windowStep r g = .start (.refuse .outside) none g)
    ∧ ∀ key, s.findKey r.addr = some key →
      ((s.window key.window).mode = .opened → s.windowStep r g = .start .pass (some key) g)
      ∧ ((s.window key.window).mode = .closed → s.windowStep r g = .start (.refuse .closedWindow) (some key) g)
      ∧ ((s.window key.window).mode = .learn ∨ (s.window key.window).mode = .fixed →
        (∀ e, s.lookup key = some e →
          (s.entry e = .barred key → s.windowStep r g = .start (.refuse .barred) (some key) g)
          ∧ ∀ owner share strict,
            ((∃ c, s.entry e = .claimed key c ∧ c.owner = owner ∧ c.share = share ∧ c.strict = strict)
              ∨ s.entry e = .pinned key ⟨owner, share, strict⟩) →
            (r.initiator = owner ∨ (r.kind = .read ∧ (strict = false ∨ share.getLsbD r.initiator.val = true)) →
              s.windowStep r g = { Judgement.start .pass (some key) g with granted := some e })
            ∧ (r.initiator ≠ owner → r.kind = .write →
              s.windowStep r g = .start (.refuse .notOwner) (some key) g)
            ∧ (r.initiator ≠ owner → r.kind = .read → strict = true → share.getLsbD r.initiator.val = false →
              s.windowStep r g = .start (.refuse .notSharer) (some key) g))
        ∧ (s.lookup key = none →
          s.windowStep r g =
            .start (if (s.window key.window).mode = .fixed then .refuse .unlisted
                    else if r.kind = .read then .pass else .claimDue) (some key) g))

/-- The substitute response of a refused access takes the style and the fill pattern of the window found for its address, or
the outside ones where none is: ERROR with no data in LOUD style; in QUIET style OKAY, with no data for a write and, for a
read, the fill pattern aligned to the address. -/
def Obligations.SubstituteFollowsTheStyle : Prop :=
  ∀ (s : State) (key : Option Key) (r : Request) (style : Style) (fill : BitVec 32),
    ((∃ k, key = some k ∧ (s.window k.window).style = style ∧ (s.window k.window).fill = fill)
      ∨ (key = none ∧ s.outside.style = style ∧ s.outside.fill = fill)) →
    let x := s.substituteFor key r
    (style = .loud → x = ⟨.error, []⟩)
    ∧ (style = .quiet → r.kind = .write → x = ⟨.okay, []⟩)
    ∧ (style = .quiet → r.kind = .read → x.status = .okay ∧ x.data.length = r.length
        ∧ ∀ n, n < r.length → x.data[n]? = some (fill.extractLsb' (8 * (3 - (r.addr.toNat + n) % 4)) 8))

/-- An access that the window or table step refuses, from an OPEN gate that is not privileged, is answered by the part,
never forwarded, counted toward a trip and reported; the gate trips when its count reaches a nonzero threshold. -/
def Obligations.OpenGateEnforcesRefusal : Prop :=
  ∀ (s : State) (i : Initiator) (r : Request) (k : SlotNo) (reason : Reason), s.Admits i r k → wellFormedRequest r →
    (s.gate i).state = .opened → (s.gate i).privileged = false →
    (s.windowStep r (s.gate i)).verdict = .refuse reason →
    let g := s.gate i
    let count := min 255 (g.tripCount + 1)
    let trips := g.tripThreshold ≠ 0 ∧ g.tripThreshold ≤ count
    ∃ t, exec .admission s = .next t ∧ AdmittedTo s t i k
      ∧ t.slot k = .ready (requestAccess r) (requestPayload r) (s.substituteFor (s.findKey r.addr) r) false
      ∧ t.forwardQueue = s.forwardQueue ∧ t.table = s.table
      ∧ t.gate i = { g with tripCount := count, state := if trips then .shut else .opened,
                            admitted := g.admitted + 1, refused := g.refused + 1 }
      ∧ t.queue = (s.raiseAll (.violation i ((s.findKey r.addr).map Key.window) r.addr r.kind reason false
          :: (if trips then [.gateTripped i] else [])
          ++ highEvents i [(.admitted, g.admitted), (.refused, g.refused)])).queue

/-- A well-formed request of a SHUT gate, privileged or not, is refused GATE_SHUT; nothing is counted toward a trip and no
entry is consulted. -/
def Obligations.ShutGateRefusesEverything : Prop :=
  ∀ (s : State) (i : Initiator) (r : Request) (k : SlotNo), s.Admits i r k → wellFormedRequest r →
    (s.gate i).state = .shut →
    ∃ t, exec .admission s = .next t ∧ AdmittedTo s t i k
      ∧ t.slot k = .ready (requestAccess r) (requestPayload r) (s.substituteFor (s.findKey r.addr) r) false
      ∧ t.forwardQueue = s.forwardQueue ∧ t.table = s.table
      ∧ t.gate i = { s.gate i with admitted := (s.gate i).admitted + 1, refused := (s.gate i).refused + 1 }
      ∧ t.queue = (s.raiseAll (.violation i ((s.findKey r.addr).map Key.window) r.addr r.kind .gateShut false
          :: highEvents i [(.admitted, (s.gate i).admitted), (.refused, (s.gate i).refused)])).queue

/-- An access that the window or table step refuses, from a LISTEN gate that is not privileged, goes to memory all the
same: it is reported as audited, touches no entry and counts as no refusal. -/
def Obligations.ListenGateAuditsRefusal : Prop :=
  ∀ (s : State) (i : Initiator) (r : Request) (k : SlotNo) (reason : Reason), s.Admits i r k → wellFormedRequest r →
    (s.gate i).state = .listen → (s.gate i).privileged = false →
    (s.windowStep r (s.gate i)).verdict = .refuse reason →
    ∃ t, exec .admission s = .next t ∧ AdmittedTo s t i k
      ∧ t.slot k = .queued (requestAccess r) (requestPayload r) none
      ∧ t.forwardQueue = s.forwardQueue ++ [k] ∧ t.table = s.table
      ∧ t.gate i = { s.gate i with admitted := (s.gate i).admitted + 1 }
      ∧ t.queue = (s.raiseAll (.violation i ((s.findKey r.addr).map Key.window) r.addr r.kind reason true
          :: highEvents i [(.admitted, (s.gate i).admitted)])).queue

/-- An access that passes goes to memory: from a privileged gate that is not SHUT whatever the windows and the table say, with
no entry touched; and from an OPEN or LISTEN gate where the window and table steps pass it, touching the CLAIMED entry that
granted it and no other. A write that its gate meters is charged: its length comes off what remains, down to 0, with a
reload from next before the charge or after it, reported by BUDGET_RELOADED. -/
def Obligations.PassedAccessIsForwarded : Prop :=
  ∀ (s : State) (i : Initiator) (r : Request) (k : SlotNo), s.Admits i r k → wellFormedRequest r →
    ∀ granted : Option EntryIndex,
    ((s.gate i).privileged = true ∧ (s.gate i).state ≠ .shut ∧ granted = none)
      ∨ ((s.gate i).privileged = false ∧ ((s.gate i).state = .opened ∨ (s.gate i).state = .listen)
          ∧ (s.windowStep r (s.gate i)).verdict = .pass ∧ granted = (s.windowStep r (s.gate i)).granted
          ∧ ¬ (s.gate i).exhausted r) →
    ∃ t, exec .admission s = .next t ∧ AdmittedTo s t i k
      ∧ t.slot k = .queued (requestAccess r) (requestPayload r) none
      ∧ t.forwardQueue = s.forwardQueue ++ [k]
      ∧ (∀ e, granted = some e → ∀ key c, s.entry e = .claimed key c →
          t.entry e = .claimed key { c with touched := true })
      ∧ (∀ e, (granted ≠ some e ∨ ∀ key c, s.entry e ≠ .claimed key c) → t.entry e = s.entry e)
      ∧ t.gate i = { (s.gate i).paid r with admitted := (s.gate i).admitted + 1 }
      ∧ t.queue = (s.raiseAll ((s.gate i).payEvents r ++ highEvents i [(.admitted, (s.gate i).admitted)])).queue

/-- A write to an unlisted granule of a LEARN window, from a gate that is not exhausted and with a FREE way in its bucket, is
charged where its gate meters it and claims the granule: the lowest FREE way holds the claim, pending on the slot the write
takes, and the slot links back to it. -/
def Obligations.LearningWriteClaimsGranule : Prop :=
  ∀ (s : State) (i : Initiator) (r : Request) (k : SlotNo) (key : Key) (e : EntryIndex), s.Admits i r k → wellFormedRequest r →
    (s.gate i).privileged = false → ((s.gate i).state = .opened ∨ (s.gate i).state = .listen) →
    ¬ (s.gate i).exhausted r → r.kind = .write →
    s.findKey r.addr = some key → (s.window key.window).mode = .learn → s.lookup key = none →
    e ∈ key.ways → s.entry e = .free → (∀ e' ∈ key.ways, e' < e → s.entry e' ≠ .free) →
    let w := s.window key.window
    ∃ t, exec .admission s = .next t ∧ AdmittedTo s t i k
      ∧ t.entry e = .claimed key { owner := i, share := 0, strict := w.learnStrict, touched := true, age := 0,
                                   claimSlot := some k }
      ∧ (∀ e', e' ≠ e → t.entry e' = s.entry e')
      ∧ t.slot k = .queued (requestAccess r) (requestPayload r) (some e)
      ∧ t.forwardQueue = s.forwardQueue ++ [k]
      ∧ t.gate i = { (s.gate i).paid r with admitted := (s.gate i).admitted + 1, claims := (s.gate i).claims + 1 }
      ∧ t.queue = (s.raiseAll ((s.gate i).payEvents r ++ (if w.reportLearning then [.learned i key.window r.addr e] else [])
          ++ highEvents i [(.admitted, (s.gate i).admitted), (.claims, (s.gate i).claims)])).queue

/-- The same write to a bucket with no FREE way is charged all the same, places nothing and queues LEARN_FULL; the window's
full action passes it unowned or refuses it TABLE_FULL, which an OPEN gate enforces and a LISTEN gate audits. -/
def Obligations.FullBucketTakesTheFullAction : Prop :=
  ∀ (s : State) (i : Initiator) (r : Request) (k : SlotNo) (key : Key), s.Admits i r k → wellFormedRequest r →
    (s.gate i).privileged = false → ((s.gate i).state = .opened ∨ (s.gate i).state = .listen) →
    ¬ (s.gate i).exhausted r → r.kind = .write →
    s.findKey r.addr = some key → (s.window key.window).mode = .learn → s.lookup key = none →
    (∀ e ∈ key.ways, s.entry e ≠ .free) →
    let g := (s.gate i).paid r
    let paid := (s.gate i).payEvents r
    let count := min 255 (g.tripCount + 1)
    let trips := g.tripThreshold ≠ 0 ∧ g.tripThreshold ≤ count
    ∃ t, exec .admission s = .next t ∧ AdmittedTo s t i k ∧ t.table = s.table
      ∧ ((s.window key.window).fullAction = .passUnowned →
          t.slot k = .queued (requestAccess r) (requestPayload r) none
          ∧ t.forwardQueue = s.forwardQueue ++ [k]
          ∧ t.gate i = { g with admitted := g.admitted + 1 }
          ∧ t.queue = (s.raiseAll (paid ++ .learnFull i key.window r.addr :: highEvents i [(.admitted, g.admitted)])).queue)
      ∧ ((s.window key.window).fullAction = .refuse → g.state = .listen →
          t.slot k = .queued (requestAccess r) (requestPayload r) none
          ∧ t.forwardQueue = s.forwardQueue ++ [k]
          ∧ t.gate i = { g with admitted := g.admitted + 1 }
          ∧ t.queue = (s.raiseAll (paid ++ .learnFull i key.window r.addr ::
              .violation i (some key.window) r.addr .write .tableFull true ::
              highEvents i [(.admitted, g.admitted)])).queue)
      ∧ ((s.window key.window).fullAction = .refuse → g.state = .opened →
          t.slot k = .ready (requestAccess r) (requestPayload r) (s.substituteFor (some key) r) false
          ∧ t.forwardQueue = s.forwardQueue
          ∧ t.gate i = { g with tripCount := count, state := if trips then .shut else .opened,
                                admitted := g.admitted + 1, refused := g.refused + 1 }
          ∧ t.queue = (s.raiseAll (paid ++ .learnFull i key.window r.addr ::
              .violation i (some key.window) r.addr .write .tableFull false ::
              (if trips then [.gateTripped i] else [])
              ++ highEvents i [(.admitted, g.admitted), (.refused, g.refused)])).queue)

/-- The budget step of a write that can still pass, from a gate with budget on: reload if empty, the exhaustion test, the
charge, and the reload after the charge. It changes the gate, the events and, where it refuses, the working verdict; the
granted entry mark stays until the audit step. -/
def Obligations.BudgetStepRunsItsStages : Prop :=
  ∀ (j : Judgement) (r : Request),
    (r.kind = .read ∨ (∃ reason, j.verdict = .refuse reason) ∨ j.gate.budgetOn = false →
      j.budgetStep r = (j, false))
    ∧ (r.kind = .write → j.verdict = .pass ∨ j.verdict = .claimDue → j.gate.budgetOn = true →
    let i := r.initiator
    let g := j.gate
    (g.remaining = 0 → g.next = 0 → g.exhaust = .hold → g.state = .opened →
      (j.budgetStep r).2 = true ∧ (j.budgetStep r).1.gate = { g with state := .held }
        ∧ (j.budgetStep r).1.events = j.events ++ [.budgetExhausted i])
    ∧ (g.remaining = 0 → g.next = 0 → ¬ (g.exhaust = .hold ∧ g.state = .opened) →
      j.budgetStep r = ({ j with verdict := .refuse .budget, events := j.events ++ [.budgetExhausted i] }, false))
    ∧ (g.remaining = 0 → 0 < g.next →
      j.budgetStep r = ({ j with gate := { g with remaining := g.next - r.length, next := 0 },
                                 events := j.events ++ [.budgetReloaded i g.next] }, false))
    ∧ (r.length < g.remaining →
      j.budgetStep r = ({ j with gate := { g with remaining := g.remaining - r.length } }, false))
    ∧ (0 < g.remaining → g.remaining ≤ r.length → g.next = 0 →
      j.budgetStep r = ({ j with gate := { g with remaining := 0 } }, false))
    ∧ (0 < g.remaining → g.remaining ≤ r.length → 0 < g.next →
      j.budgetStep r = ({ j with gate := { g with remaining := g.next, next := 0 },
                                 events := j.events ++ [.budgetReloaded i g.next] }, false)))

/-- A write that finds its gate exhausted queues BUDGET_EXHAUSTED and is not charged. From an OPEN gate with exhaust action
HOLD it is a budget hold: the gate becomes HELD, and nothing else changes: the request stays in its lane, no slot is taken,
no counter steps and the pointer stays. From an OPEN gate with REFUSE it is refused BUDGET, enforced and counted toward a
trip. From a LISTEN gate, whichever the action, it goes to memory, reported as audited, with no claim made and no entry
touched. That holds where a CLAIMED entry granted the write too, as R66 and R135 say of softened accesses; R12's two
conditions alone read otherwise there (assumption log 11). -/
def Obligations.ExhaustedBudgetHoldsRefusesOrIsSoftened : Prop :=
  ∀ (s : State) (i : Initiator) (r : Request) (k : SlotNo), s.Admits i r k → wellFormedRequest r →
    (s.gate i).privileged = false → (s.gate i).exhausted r →
    (s.windowStep r (s.gate i)).verdict = .pass ∨ (s.windowStep r (s.gate i)).verdict = .claimDue →
    let g := s.gate i
    let count := min 255 (g.tripCount + 1)
    let trips := g.tripThreshold ≠ 0 ∧ g.tripThreshold ≤ count
    let window := (s.findKey r.addr).map Key.window
    ∃ t, exec .admission s = .next t
      ∧ (g.state = .opened → g.exhaust = .hold →
          t.gate i = { g with state := .held } ∧ (∀ j, j ≠ i → t.gate j = s.gate j)
          ∧ t.queue = (s.raise (.budgetExhausted i)).queue
          ∧ t = { s with gates := t.gates, queue := t.queue })
      ∧ (g.state = .opened → g.exhaust = .refuse →
          AdmittedTo s t i k
          ∧ t.slot k = .ready (requestAccess r) (requestPayload r) (s.substituteFor (s.findKey r.addr) r) false
          ∧ t.forwardQueue = s.forwardQueue ∧ t.table = s.table
          ∧ t.gate i = { g with tripCount := count, state := if trips then .shut else .opened,
                                admitted := g.admitted + 1, refused := g.refused + 1 }
          ∧ t.queue = (s.raiseAll (.budgetExhausted i :: .violation i window r.addr .write .budget false
              :: (if trips then [.gateTripped i] else [])
              ++ highEvents i [(.admitted, g.admitted), (.refused, g.refused)])).queue)
      ∧ (g.state = .listen →
          AdmittedTo s t i k
          ∧ t.slot k = .queued (requestAccess r) (requestPayload r) none
          ∧ t.forwardQueue = s.forwardQueue ++ [k] ∧ t.table = s.table
          ∧ t.gate i = { g with admitted := g.admitted + 1 }
          ∧ t.queue = (s.raiseAll (.budgetExhausted i :: .violation i window r.addr .write .budget true
              :: highEvents i [(.admitted, g.admitted)])).queue)

/-! ### The ports and the tracker -/

/-- A request presented on an empty lane is held there with every field as presented; a lane that holds one keeps it, and
the part does not see the other: the row leaves the state as it is (assumption log 9). -/
def Obligations.LaneHoldsThePresentedRequest : Prop :=
  ∀ (s : State) (r : Request),
    (s.lane r.initiator = none → ∃ t, exec (.presentRequest r) s = .next t ∧ t.lane r.initiator = some r
      ∧ (∀ j, j ≠ r.initiator → t.lane j = s.lane j) ∧ t = { s with lanes := t.lanes })
    ∧ (∀ q, s.lane r.initiator = some q → exec (.presentRequest r) s = .next s)

/-- SEND hands the head of the forward queue to the memory controller under its slot number, and the slot waits for the
answer with the deadline of the response timeout as it stands; with an empty queue nothing is sent, and the row leaves the
state as it is (assumption log 9). -/
def Obligations.SendHandsOnTheHead : Prop :=
  ∀ s : State,
    (∀ k rest a p link, s.forwardQueue = k :: rest → s.slot k = .queued a p link →
      ¬ (s.long.kind = .restart ∧ s.long.drainForcing = true) →
      ∃ t, exec .send s = .next t ∧ t.forwardQueue = rest
        ∧ t.slot k = .outstanding a link (if s.responseTimeout = 0 then none else some (s.now + s.responseTimeout))
        ∧ (∀ j, j ≠ k → t.slot j = s.slot j)
        ∧ t.sentDown = s.sentDown ++ [⟨k, a.kind, a.addr, a.length, p.data, p.enables⟩]
        ∧ t = { s with forwardQueue := t.forwardQueue, slots := t.slots, sentDown := t.sentDown })
    ∧ (s.forwardQueue = [] → exec .send s = .next s)

/-- The answer of an OUTSTANDING slot makes it READY with memory's status and, for an OKAY read, its L bytes; OKAY confirms
the claim its link names, and ERROR voids it with CLAIM_VOIDED. A response that no access awaits is discarded: one for a slot
that timed out clears the orphan mark, or frees the ORPHANED slot, with LATE_RESPONSE; one for a FREE, a QUEUED or an
answered READY slot changes no slot and queues STRAY_RESPONSE. -/
def Obligations.ResponsesReachTheirSlots : Prop :=
  ∀ (s : State) (k : SlotNo) (status : RespStatus) (data : List Byte),
    (∀ a link d, s.slot k = .outstanding a link d → s.linkAgrees k link →
      ∃ t, exec (.downstreamResponse k status data) s = .next t
        ∧ t.slot k = .ready a ⟨[], []⟩
            ⟨status, if status = .okay ∧ a.kind = .read then (data ++ List.replicate a.length 0).take a.length else []⟩ false
        ∧ (∀ j, j ≠ k → t.slot j = s.slot j)
        ∧ (∀ e, link ≠ some e → t.entry e = s.entry e)
        ∧ (∀ e key c, link = some e → s.entry e = .claimed key c →
            t.entry e = if status = .okay then .claimed key { c with claimSlot := none } else .free)
        ∧ t.queue = (s.raiseAll (if status = .error then s.voidEvents a link else [])).queue
        ∧ t = { s with slots := t.slots, table := t.table, queue := t.queue })
    ∧ (∀ a p r, s.slot k = .ready a p r true →
      ∃ t, exec (.downstreamResponse k status data) s = .next t ∧ t.slot k = .ready a p r false
        ∧ (∀ j, j ≠ k → t.slot j = s.slot j) ∧ t.queue = (s.raise (.lateResponse k)).queue
        ∧ t = { s with slots := t.slots, queue := t.queue })
    ∧ (∀ a, s.slot k = .orphaned a →
      ∃ t, exec (.downstreamResponse k status data) s = .next t ∧ t.slot k = .free
        ∧ (∀ j, j ≠ k → t.slot j = s.slot j) ∧ t.queue = (s.raise (.lateResponse k)).queue
        ∧ t = { s with slots := t.slots, queue := t.queue })
    ∧ ((s.slot k = .free ∨ (∃ a p l, s.slot k = .queued a p l) ∨ ∃ a p r, s.slot k = .ready a p r false) →
      ∃ t, exec (.downstreamResponse k status data) s = .next t ∧ t.queue = (s.raise (.strayResponse k)).queue
        ∧ t = { s with queue := t.queue })

/-- A deadline that runs out makes its slot READY with ERROR and the orphan mark, queues RESPONSE_TIMEOUT, and voids its
claim with CLAIM_VOIDED after it. Each deadline is taken in the tick that reaches it: the time is then at least the deadline,
and where another timed happening falls due before it and is still to be taken, the time does not come to it and nothing
happens yet (assumption log 3). Where the slot has no deadline to run out, the row leaves the state as it is (log 9). -/
def Obligations.DeadlineExpiryTimesTheSlotOut : Prop :=
  ∀ (s : State) (k : SlotNo),
    (∀ a link d, s.slot k = .outstanding a link (some d) → s.linkAgrees k link → d ≤ s.now ∨ s.NothingDueBefore d →
      ∃ t, exec (.deadlineExpiry k) s = .next t
        ∧ t.slot k = .ready a ⟨[], []⟩ ⟨.error, []⟩ true ∧ (∀ j, j ≠ k → t.slot j = s.slot j)
        ∧ (∀ e, t.entry e = if link = some e then .free else s.entry e)
        ∧ t.queue = (s.raiseAll (.responseTimeout a.initiator a.addr k :: s.voidEvents a link)).queue
        ∧ t.now = max s.now d
        ∧ t = { s with slots := t.slots, table := t.table, queue := t.queue, now := t.now })
    ∧ (∀ a link d, s.slot k = .outstanding a link (some d) → s.now < d → ¬ s.NothingDueBefore d →
      exec (.deadlineExpiry k) s = .next s)
    ∧ ((∀ a link d, s.slot k ≠ .outstanding a link (some d)) → exec (.deadlineExpiry k) s = .next s)

/-- RESTART's drain limit turns drain forcing on while the drain is not complete, in the tick that reaches it: where another
timed happening falls due before it and is still to be taken, it is not reached yet (assumption log 3). From then on a
forced timeout ends an OUTSTANDING slot whether or not it has a deadline, and a QUEUED slot times out in the happening of
its sending, after its request has been handed to the memory controller. With the drain complete the row DRAIN_LIMIT leaves
the state as it is (log 9). -/
def Obligations.DrainLimitForcesTimeouts : Prop :=
  ∀ s : State, s.long.kind = .restart →
    (∀ stop, s.long.stopTime = some stop → s.long.drainForcing = false →
      (∃ k, s.slot k ≠ .free ∧ ∀ a, s.slot k ≠ .orphaned a) →
      (stop + 10000 ≤ s.now ∨ s.NothingDueBefore (stop + 10000) →
        exec .drainLimit s = .next { s with
          now := max s.now (stop + 10000), long := { s.long with drainForcing := true } })
      ∧ (s.now < stop + 10000 → ¬ s.NothingDueBefore (stop + 10000) → exec .drainLimit s = .next s))
    ∧ ((∀ k, s.slot k = .free ∨ ∃ a, s.slot k = .orphaned a) → exec .drainLimit s = .next s)
    ∧ (s.long.drainForcing = true → ∀ k a link d, s.slot k = .outstanding a link d → s.linkAgrees k link →
      ∃ t, exec (.forcedTimeout k) s = .next t
        ∧ t.slot k = .ready a ⟨[], []⟩ ⟨.error, []⟩ true ∧ (∀ j, j ≠ k → t.slot j = s.slot j)
        ∧ (∀ e, t.entry e = if link = some e then .free else s.entry e)
        ∧ t.queue = (s.raiseAll (.responseTimeout a.initiator a.addr k :: s.voidEvents a link)).queue
        ∧ t = { s with slots := t.slots, table := t.table, queue := t.queue })
    ∧ (s.long.drainForcing = true → ∀ k rest a p link, s.forwardQueue = k :: rest → s.slot k = .queued a p link →
      s.linkAgrees k link →
      ∃ t, exec .send s = .next t ∧ t.forwardQueue = rest
        ∧ t.slot k = .ready a ⟨[], []⟩ ⟨.error, []⟩ true ∧ (∀ j, j ≠ k → t.slot j = s.slot j)
        ∧ (∀ e, t.entry e = if link = some e then .free else s.entry e)
        ∧ t.sentDown = s.sentDown ++ [⟨k, a.kind, a.addr, a.length, p.data, p.enables⟩]
        ∧ t.queue = (s.raiseAll (.responseTimeout a.initiator a.addr k :: s.voidEvents a link)).queue
        ∧ t = { s with forwardQueue := t.forwardQueue, slots := t.slots, table := t.table, sentDown := t.sentDown,
                       queue := t.queue })

/-- A departure takes the head slot of the first initiator ready to receive, from the response pointer upward: its response
leaves, the slot leaves its list and is freed, or becomes ORPHANED when it carries the mark. Where none is ready, none
leaves, and the row leaves the state as it is (assumption log 9). -/
def Obligations.DepartureServesFirstReadyInitiator : Prop :=
  ∀ s : State,
    let ready (i : Initiator) : Prop := ∃ k rest a p r o, s.returnList i = k :: rest ∧ s.slot k = .ready a p r o
    (∀ i k rest a p r o, s.returnList i = k :: rest → s.slot k = .ready a p r o →
      (∀ j : Initiator, (j - s.responsePointer).val < (i - s.responsePointer).val → ¬ ready j) →
      ∃ t, exec .departure s = .next t
        ∧ t.leftUp = s.leftUp ++ [⟨a.initiator, a.tag, r.status, r.data⟩]
        ∧ t.returnList i = rest ∧ (∀ j, j ≠ i → t.returnList j = s.returnList j)
        ∧ t.slot k = (if o then .orphaned a else .free) ∧ (∀ j, j ≠ k → t.slot j = s.slot j)
        ∧ t.responsePointer = i + 1
        ∧ t = { s with leftUp := t.leftUp, returnLists := t.returnLists, slots := t.slots,
                       responsePointer := t.responsePointer })
    ∧ ((∀ i, ¬ ready i) → exec .departure s = .next s)

/-! ### Aging, walks and RESTART -/

/-- A millisecond boundary raises the elapsed count by 1, stopping at 65,535, and marks the boundary as one at which the
timer expires exactly when the interval is above 0, the count is at or above it and no RESTART runs; where another timed
happening falls due before the boundary and is still to be taken, the boundary is not reached yet. The time and the mark are
the model's own way of saying it (assumption log 3). The expiry restarts the count and starts a sweep, or makes one
pending when one runs. Where the timer does not expire, the row INTERVAL_TIMER_EXPIRY leaves the state as it is (log 9). -/
def Obligations.IntervalTimerCountsAndExpires : Prop :=
  ∀ s : State,
    let next := s.sweep.boundary + 1000
    (next ≤ s.now ∨ s.NothingDueBefore next →
      ∃ t, exec .timerMillisecondBoundary s = .next t
      ∧ t.sweep.elapsed = min 65535 (s.sweep.elapsed + 1)
      ∧ (t.sweep.expiryDue = true ↔
          0 < s.sweep.interval ∧ s.sweep.interval ≤ t.sweep.elapsed ∧ s.long.kind ≠ .restart)
      ∧ t.sweep = { s.sweep with elapsed := t.sweep.elapsed, boundary := next,
                                 expiryDue := t.sweep.expiryDue }
      ∧ t = { s with now := max s.now next, sweep := t.sweep })
    ∧ (s.now < next → ¬ s.NothingDueBefore next → exec .timerMillisecondBoundary s = .next s)
    ∧ (s.sweep.expiryDue = true → s.long.kind ≠ .restart →
      exec .intervalTimerExpiry s = .next { s with sweep :=
        if s.sweep.running then { s.sweep with elapsed := 0, expiryDue := false, pending := true }
        else { s.sweep with elapsed := 0, expiryDue := false, running := true, cursor := 0, released := 0 } })
    ∧ (s.sweep.expiryDue = false ∨ s.long.kind = .restart → exec .intervalTimerExpiry s = .next s)

/-- A sweep step ages the entry at the cursor and no other: a pending claim is left, a touched one is reset, an untouched
one ages and is released at its window's age limit, and every other kind is left. Below index 1023 the cursor moves on, a
release is counted, RELEASED is queued where the window of the released entry reports releases, and nothing else of the
part changes. -/
def Obligations.SweepStepAgesTheEntry : Prop :=
  ∀ (s : State) (e : EntryIndex), s.sweep.running = true → s.sweep.cursor = e.val →
    ∃ t, exec .sweepStep s = .next t
      ∧ (∀ j, j ≠ e → t.entry j = s.entry j)
      ∧ ((∀ key c, s.entry e ≠ .claimed key c) → t.entry e = s.entry e)
      ∧ (∀ key c, s.entry e = .claimed key c →
          t.entry e = if c.claimSlot ≠ none then s.entry e
                      else if c.touched then .claimed key { c with touched := false, age := 0 }
                      else if (s.window key.window).ageLimit ≤ c.age + 1 then .free
                      else .claimed key { c with age := c.age + 1 })
      ∧ t.slots = s.slots
      ∧ (e.val < 1023 →
          t.sweep = { s.sweep with cursor := e.val + 1, released := s.sweep.released + if s.releases e then 1 else 0 }
          ∧ t.queue = (s.raiseAll (s.releaseEvents e)).queue
          ∧ t = { s with table := t.table, sweep := t.sweep, queue := t.queue })

/-- The step at index 1023 ends the sweep: it stops, or a pending one starts at once; and a SWEEP_NOW that waits on it ends
with COMMAND_DONE and the released count, while one that waits on the next waits on. -/
def Obligations.SweepEndsAtTheLastIndex : Prop :=
  ∀ s : State, s.sweep.running = true → s.sweep.cursor = 1023 →
    let released := s.sweep.released + if s.releases 1023 then 1 else 0
    ∃ t, exec .sweepStep s = .next t
      ∧ t.sweep = (if s.sweep.pending then { s.sweep with pending := false, cursor := 0, released := 0 }
                   else { s.sweep with running := false, cursor := 1024, released := released })
      ∧ t.long = (if s.long.kind = .sweep ∧ s.long.awaited = some .current then
                    { s.long with kind := .none, affected := released }
                  else if s.long.kind = .sweep ∧ s.long.awaited = some .next then
                    { s.long with awaited := some .current }
                  else s.long)
      ∧ t.queue = (s.raiseAll (s.releaseEvents 1023
          ++ if s.long.kind = .sweep ∧ s.long.awaited = some .current then [.commandDone .sweep .complete released]
             else [])).queue
      ∧ t = { s with table := t.table, sweep := t.sweep, long := t.long, queue := t.queue }

/-- A PURGE step frees the entry at the cursor exactly when its kind is in the kind set and both filters pass it, and
counts it; a claim still pending loses its slot's link and no event is queued for it. -/
def Obligations.PurgeStepFreesMatches : Prop :=
  ∀ (s : State) (e : EntryIndex) (ks : KindSet), s.long.kind = .purge → s.long.abortRequested = false →
    s.long.cursor = e.val → s.long.kindSet = some ks →
    let x := s.entry e
    let isMatch : Prop :=
      ((x.isClaimed = true ∧ ks.claimed = true) ∨ ((∃ k p, x = .pinned k p) ∧ ks.pinned = true)
        ∨ ((∃ k, x = .barred k) ∧ ks.barred = true))
      ∧ (∀ w, s.long.windowFilter = some w → ∃ k, x.key? = some k ∧ k.window = w)
      ∧ (∀ i, s.long.ownerFilter = some i →
          (∃ k c, x = .claimed k c ∧ c.owner = i) ∨ ∃ k p, x = .pinned k p ∧ p.owner = i)
    ∃ t, exec .purgeStep s = .next t
      ∧ (∀ j, j ≠ e → t.entry j = s.entry j)
      ∧ (isMatch → t.entry e = .free ∧ t.long.affected = s.long.affected + 1
          ∧ ∀ k, t.slot k = if x.claimSlot? = some k then (s.slot k).unlink else s.slot k)
      ∧ (¬ isMatch → t.entry e = x ∧ t.long.affected = s.long.affected ∧ t.slots = s.slots)
      ∧ t.long = { s.long with cursor := e.val + 1, affected := t.long.affected,
                               kind := if e.val = 1023 then .none else .purge }
      ∧ t.queue = (s.raiseAll (if e.val = 1023 then [.commandDone .purge .complete t.long.affected] else [])).queue
      ∧ t = { s with table := t.table, slots := t.slots, long := t.long, queue := t.queue }

/-- A REOWN step gives a matching entry that is not pending to its new owner, who leaves the share set, and counts it; a
matching pending entry is counted as skipped and left; every other entry is left. -/
def Obligations.ReownStepMovesOwnership : Prop :=
  ∀ (s : State) (e : EntryIndex) (source target : Initiator), s.long.kind = .reown → s.long.abortRequested = false →
    s.long.cursor = e.val → s.long.source = some source → s.long.target = some target →
    let inScope (key : Key) : Prop := s.long.windowFilter = none ∨ s.long.windowFilter = some key.window
    ∃ t, exec .reownStep s = .next t
      ∧ (∀ j, j ≠ e → t.entry j = s.entry j)
      ∧ (∀ key c, s.entry e = .claimed key c → c.owner = source → inScope key → c.claimSlot = none →
          t.entry e = .claimed key { c with owner := target, share := shareWithout c.share target }
          ∧ t.long.affected = s.long.affected + 1 ∧ t.long.skipped = s.long.skipped)
      ∧ (∀ key p, s.entry e = .pinned key p → p.owner = source → inScope key →
          t.entry e = .pinned key { p with owner := target, share := shareWithout p.share target }
          ∧ t.long.affected = s.long.affected + 1 ∧ t.long.skipped = s.long.skipped)
      ∧ (∀ key c, s.entry e = .claimed key c → c.owner = source → inScope key → c.claimSlot ≠ none →
          t.entry e = s.entry e ∧ t.long.affected = s.long.affected ∧ t.long.skipped = s.long.skipped + 1)
      ∧ ((∀ key c, s.entry e = .claimed key c → c.owner = source → ¬ inScope key) →
          (∀ key p, s.entry e = .pinned key p → p.owner = source → ¬ inScope key) →
          t.entry e = s.entry e ∧ t.long.affected = s.long.affected ∧ t.long.skipped = s.long.skipped)
      ∧ t.long = { s.long with cursor := e.val + 1, affected := t.long.affected, skipped := t.long.skipped,
                               kind := if e.val = 1023 then .none else .reown }
      ∧ t.queue = (s.raiseAll (if e.val = 1023 then [.commandDone .reown .complete t.long.affected] else [])).queue
      ∧ t = { s with table := t.table, long := t.long, queue := t.queue }

/-- The clear step of a drained RESTART frees every CLAIMED entry and every slot, empties the queue but for its next
sequence number, zeroes every trip count, and keeps everything else, PINNED and BARRED entries included. The resume step
queues RESTARTED with the number of claims freed, restarts the interval timer, and returns the long-operation record to its
cold values; before the clear step it is not taken (assumption log 9). The field that tells the two steps apart is the
model's own (assumption log 5), and so are the last boundary and the due mark of the timer (assumption log 3). -/
def Obligations.RestartClearsAndResumes : Prop :=
  ∀ s : State, s.long.kind = .restart →
    (s.long.cleared = false → (∀ k, s.slot k = .free ∨ ∃ a, s.slot k = .orphaned a) →
      ∃ t, exec .clearStep s = .next t
        ∧ (∀ e, t.entry e = if (s.entry e).isClaimed then .free else s.entry e)
        ∧ (∀ k, t.slot k = .free) ∧ (∀ i, t.returnList i = []) ∧ t.forwardQueue = []
        ∧ t.queue = { s.queue with records := [], lostTally := 0 } ∧ t.attn = false
        ∧ (∀ i, t.gate i = { s.gate i with tripCount := 0 })
        ∧ t.long = { s.long with affected := s.table.count Entry.isClaimed, cleared := true }
        ∧ t = { s with table := t.table, slots := t.slots, returnLists := t.returnLists, forwardQueue := t.forwardQueue,
                       queue := t.queue, gates := t.gates, long := t.long })
    ∧ (s.long.cleared = true →
      exec .resumeStep s = .next { s with
        queue := (s.raise (.restarted s.long.affected)).queue
        sweep := { s.sweep with elapsed := 0, boundary := s.now, expiryDue := false }
        long := ⟨.none, 0, none, none, none, none, none, 0, 0, false, none, none, false, false⟩ })
    ∧ (s.long.cleared = false → exec .resumeStep s = .next s)

/-! ### The management commands -/

/-- While RESTART runs, every command but STATUS, REPEAT_REPLY and FETCH_EVENTS is refused RESTARTING whatever its
arguments, and takes no effect. -/
def Obligations.RestartFencesCommands : Prop :=
  ∀ (s : State) (i : Instr) (c : Command) (bs : List Byte), frameOf i = some (c, bs) →
    c ≠ .status → c ≠ .repeatReply → c ≠ .fetchEvents →
    s.long.kind = .restart → s.canTake (.command i) = true →
    ∃ t, exec i s = .next t ∧ Answered s t c.code .restarting []
      ∧ t = { s with port := t.port, passedOn := t.passedOn }

/-- A command whose arguments the argument checks refuse is answered BAD_ARGUMENT, a long one even while another long
command runs, and takes no effect. -/
def Obligations.BadArgumentsAreRefused : Prop :=
  ∀ (s : State) (i : Instr) (c : Command) (bs : List Byte), frameOf i = some (c, bs) → s.long.kind ≠ .restart ∨ c = .fetchEvents →
    s.canTake (.command i) = true → badArguments i →
    ∃ t, exec i s = .next t ∧ Answered s t c.code .badArgument []
      ∧ t = { s with port := t.port, passedOn := t.passedOn }

/-- Whatever command is taken, its reply is made at once, and reaches a receiver that awaits it; the lines stay. If the
reply is a refusal the command has changed nothing in any block: only the frames held and the port's reply differ. A command
that is not the oldest frame held, while any is held, changes nothing at all: that such a row is not taken is the model's
choice (assumption log 8). -/
def Obligations.RefusedCommandChangesNothing : Prop :=
  ∀ (s t : State) (i : Instr) (c : Command) (bs : List Byte), frameOf i = some (c, bs) → exec i s = .next t →
    (s.canTake (.command i) = true → ∃ r, Replied s t r
      ∧ (c ≠ .repeatReply → t.port.lastReply = some ⟨c.code, r.status, r.results⟩)
      ∧ (c = .repeatReply → t.port.lastReply = s.port.lastReply)
      ∧ (r.status ≠ .done → r.results = [])
      ∧ (r.status ≠ .done → r.status ≠ .accepted → t = { s with port := t.port, passedOn := t.passedOn }))
    ∧ (s.canTake (.command i) = false → t = s)

/-- SET_WINDOW: a space overrun is refused RANGE, a changed geometry of a window that is enabled or holds entries is refused
WINDOW_IN_USE, and otherwise every field it carries is written and the enabled flag is kept. -/
def Obligations.SetWindowWritesTheRecord : Prop :=
  ∀ (s : State) (w : WindowNo) (m : WindowImage), s.readyFor (.setWindow (indexByte w) m) → AdmissibleImage m →
    let end_ := m.base.toNat + m.size.toNat * 2 ^ m.exponent.toNat
    let old := s.window w
    let sameGeometry := m.base = old.base ∧ m.size.toNat = old.size ∧ m.exponent.toNat = old.exponent
    let inUse := old.enabled = true ∨ ∃ e k, (s.entry e).key? = some k ∧ k.window = w
    ∃ t, exec (.setWindow (indexByte w) m) s = .next t
      ∧ (2 ^ 40 < end_ → Answered s t 0x10 .range [] ∧ t.windows = s.windows)
      ∧ (end_ ≤ 2 ^ 40 → ¬ sameGeometry → inUse → Answered s t 0x10 .windowInUse [] ∧ t.windows = s.windows)
      ∧ (end_ ≤ 2 ^ 40 → sameGeometry ∨ ¬ inUse → Answered s t 0x10 .done []
          ∧ t.window w = ⟨old.enabled, m.base, m.size.toNat, m.exponent.toNat, m.mode, m.style, m.fill,
              m.ageLimit.toNat, m.learnStrict, m.fullAction, m.reportLearning, m.reportRelease⟩
          ∧ ∀ v, v ≠ w → t.window v = s.window v)
      ∧ t = { s with windows := t.windows, port := t.port, passedOn := t.passedOn }

/-- ENABLE_WINDOW on is refused RANGE for a window of size 0 and OVERLAP where the range shares an address with another
enabled window's; otherwise the flag is set. Off clears it in every case. No other field changes. -/
def Obligations.EnableWindowSetsTheFlag : Prop :=
  ∀ (s : State) (w : WindowNo) (on : Bool), s.readyFor (.enableWindow (indexByte w) (choiceByte on)) →
    let meetsAnother := ∃ v a, v ≠ w ∧ (s.window v).enabled = true ∧ (s.window v).covers a = true
      ∧ (s.window w).covers a = true
    ∃ t, exec (.enableWindow (indexByte w) (choiceByte on)) s = .next t
      ∧ (on = true → (s.window w).size = 0 → Answered s t 0x11 .range [] ∧ t.windows = s.windows)
      ∧ (on = true → 0 < (s.window w).size → meetsAnother → Answered s t 0x11 .overlap [] ∧ t.windows = s.windows)
      ∧ (on = false ∨ (0 < (s.window w).size ∧ ¬ meetsAnother) → Answered s t 0x11 .done []
          ∧ t.window w = { s.window w with enabled := on } ∧ ∀ v, v ≠ w → t.window v = s.window v)
      ∧ t = { s with windows := t.windows, port := t.port, passedOn := t.passedOn }

/-- SET_OUTSIDE writes the three fields of the outside policy and nothing else. SET_TIMERS writes the response timeout and the
sweep interval, and nothing else: no slot's deadline, no elapsed count and no sweep changes. A repeated interval leaves the
timer's schedule as it was; a changed one is compared from the next millisecond on (assumption log 3). -/
def Obligations.OutsideAndTimersAreWritten : Prop :=
  ∀ s : State,
    (∀ m : OutsideImage, s.readyFor (.setOutside m) →
      ∃ t, exec (.setOutside m) s = .next t ∧ Answered s t 0x13 .done []
        ∧ t = { s with outside := ⟨m.action, m.style, m.fill⟩, port := t.port, passedOn := t.passedOn })
    ∧ (∀ timeout interval : BitVec 16, s.readyFor (.setTimers timeout interval) →
      ∃ t, exec (.setTimers timeout interval) s = .next t ∧ Answered s t 0x40 .done []
        ∧ t = { s with
            responseTimeout := timeout.toNat
            sweep := { s.sweep with interval := interval.toNat,
                                    expiryDue := s.sweep.expiryDue && decide (interval.toNat = s.sweep.interval) }
            port := t.port, passedOn := t.passedOn })

/-- SET_GATE sets the state and, for OPEN and LISTEN, zeroes the trip count; SET_GATE_CONFIG writes the four configuration
fields; LOAD_BUDGET replaces the pair; READ_COUNTERS replies with the three counters as they stand and, with clear yes,
zeroes them in the same happening. Each keeps every other field of the gate and every other gate. -/
def Obligations.GateCommandsReachTheirFields : Prop :=
  ∀ (s : State) (i : Initiator),
    (∀ st, s.readyFor (.setGate (indexByte i) st.code) →
      ∃ t, exec (.setGate (indexByte i) st.code) s = .next t ∧ Answered s t 0x20 .done []
        ∧ t.gate i = { s.gate i with
            state := st, tripCount := if st = .opened ∨ st = .listen then 0 else (s.gate i).tripCount }
        ∧ (∀ j, j ≠ i → t.gate j = s.gate j)
        ∧ t = { s with gates := t.gates, port := t.port, passedOn := t.passedOn })
    ∧ (∀ privileged threshold budgetOn exhaust,
      let c := Instr.setGateConfig (indexByte i) (choiceByte privileged) threshold (choiceByte budgetOn) (exhaustByte exhaust)
      s.readyFor c →
      ∃ t, exec c s = .next t ∧ Answered s t 0x21 .done []
        ∧ t.gate i = { s.gate i with privileged := privileged, tripThreshold := threshold.toNat, budgetOn := budgetOn,
                                     exhaust := exhaust }
        ∧ (∀ j, j ≠ i → t.gate j = s.gate j)
        ∧ t = { s with gates := t.gates, port := t.port, passedOn := t.passedOn })
    ∧ (∀ remaining next, s.readyFor (.loadBudget (indexByte i) remaining next) →
      ∃ t, exec (.loadBudget (indexByte i) remaining next) s = .next t ∧ Answered s t 0x22 .done []
        ∧ t.gate i = { s.gate i with remaining := remaining.toNat, next := next.toNat }
        ∧ (∀ j, j ≠ i → t.gate j = s.gate j)
        ∧ t = { s with gates := t.gates, port := t.port, passedOn := t.passedOn })
    ∧ (∀ clear, s.readyFor (.readCounters (indexByte i) (choiceByte clear)) →
      ∃ t, exec (.readCounters (indexByte i) (choiceByte clear)) s = .next t
        ∧ Answered s t 0x24 .done (bytesOf 4 (s.gate i).admitted.toNat ++ bytesOf 4 (s.gate i).refused.toNat
            ++ bytesOf 4 (s.gate i).claims.toNat)
        ∧ t.gate i = (if clear then { s.gate i with admitted := 0, refused := 0, claims := 0 } else s.gate i)
        ∧ (∀ j, j ≠ i → t.gate j = s.gate j)
        ∧ t = { s with gates := t.gates, port := t.port, passedOn := t.passedOn })

/-- READ_WINDOW, READ_GATE, FIND_ENTRY and STATUS reply with the state as it stands, in the order of R198, and change
nothing but the reply. A key that no entry matches is refused NOT_FOUND. -/
def Obligations.ReadingCommandsReplyAndChangeNothing : Prop :=
  ∀ s : State,
    (∀ w, s.readyFor (.readWindow (indexByte w)) →
      ∃ t, exec (.readWindow (indexByte w)) s = .next t
        ∧ Answered s t 0x12 .done ((s.window w).image.bytes
            ++ bytesOf 2 (s.table.count fun x => decide (x.key?.map Key.window = some w)) ++ s.outside.image.bytes)
        ∧ t = { s with port := t.port, passedOn := t.passedOn })
    ∧ (∀ i, s.readyFor (.readGate (indexByte i)) →
      ∃ t, exec (.readGate (indexByte i)) s = .next t
        ∧ Answered s t 0x23 .done ([(s.gate i).state.code,
              BitVec.ofNat 8 (flagAt 3 (s.gate i).privileged + flagAt 2 (s.gate i).budgetOn
                + flagAt 1 ((s.gate i).exhaust == .hold) + flagAt 0 (s.lane i).isSome),
              BitVec.ofNat 8 (s.gate i).tripThreshold, BitVec.ofNat 8 (s.gate i).tripCount]
            ++ bytesOf 4 (s.gate i).remaining ++ bytesOf 4 (s.gate i).next)
        ∧ t = { s with port := t.port, passedOn := t.passedOn })
    ∧ (∀ w g, g.toNat ≤ 1048575 → s.readyFor (.findEntry (indexByte w) g) →
      ∃ t, exec (.findEntry (indexByte w) g) s = .next t
        ∧ (∀ e, s.lookup ⟨w, g.toNat⟩ = some e → Answered s t 0x33 .done ((s.entry e).image e).bytes)
        ∧ (s.lookup ⟨w, g.toNat⟩ = none → Answered s t 0x33 .notFound [])
        ∧ t = { s with port := t.port, passedOn := t.passedOn })
    ∧ (s.canTake (.command .status) = true →
      ∃ t, exec .status s = .next t
        ∧ Answered s t 0x60 .done ([s.long.kind.code,
              BitVec.ofNat 8 (flagAt 3 s.long.abortRequested + flagAt 2 s.sweep.running + flagAt 1 s.sweep.pending
                + flagAt 0 (s.long.kind == .restart))]
            ++ bytesOf 2 s.long.cursor ++ bytesOf 2 s.long.affected ++ bytesOf 2 s.long.skipped
            ++ bytesOf 2 s.sweep.cursor ++ [BitVec.ofNat 8 s.queue.records.length] ++ bytesOf 2 s.queue.lostTally
            ++ [BitVec.ofNat 8 (s.slots.count fun x => decide (x ≠ .free))])
        ∧ t = { s with port := t.port, passedOn := t.passedOn })

/-- READ_ENTRY replies with the image of the entry at its index, FREE ones included, or refuses an index above 1023
BAD_ARGUMENT. It changes nothing but the reply. -/
def Obligations.ReadEntryShowsTheEntry : Prop :=
  ∀ (s : State) (n : BitVec 16), s.readyFor (.readEntry n) →
    ∃ t, exec (.readEntry n) s = .next t
      ∧ (∀ e : EntryIndex, n.toNat = e.val → Answered s t 0x34 .done ((s.entry e).image e).bytes)
      ∧ (1023 < n.toNat → Answered s t 0x34 .badArgument [])
      ∧ t = { s with port := t.port, passedOn := t.passedOn }

/-- INSERT_ENTRY: RANGE, DUPLICATE and BUCKET_FULL in that order, and otherwise a PINNED or BARRED entry in the lowest FREE
way of the key's bucket, the owner left out of the share set, with the index as the reply. -/
def Obligations.InsertEntryPlacesTheKey : Prop :=
  ∀ (s : State) (m : EntryImage), s.readyFor (.insertEntry m) → m.granule.toNat ≤ 1048575 →
    m.kind = .pinned ∨ m.kind = .barred →
    let key : Key := ⟨m.window, m.granule.toNat⟩
    let inRange := m.granule.toNat < (s.window m.window).size
    ∃ t, exec (.insertEntry m) s = .next t
      ∧ (¬ inRange → Answered s t 0x30 .range [] ∧ t.table = s.table)
      ∧ (inRange → (∃ e ∈ key.ways, (s.entry e).key? = some key) →
          Answered s t 0x30 .duplicate [] ∧ t.table = s.table)
      ∧ (inRange → (∀ e ∈ key.ways, (s.entry e).key? ≠ some key) → (∀ e ∈ key.ways, s.entry e ≠ .free) →
          Answered s t 0x30 .bucketFull [] ∧ t.table = s.table)
      ∧ (inRange → (∀ e ∈ key.ways, (s.entry e).key? ≠ some key) →
          ∀ e ∈ key.ways, s.entry e = .free → (∀ e' ∈ key.ways, e' < e → s.entry e' ≠ .free) →
          Answered s t 0x30 .done (bytesOf 2 e.val)
          ∧ t.entry e = (if m.kind = .barred then .barred key
                         else .pinned key ⟨m.owner, shareWithout m.share m.owner, m.strict⟩)
          ∧ ∀ j, j ≠ e → t.entry j = s.entry j)
      ∧ t = { s with table := t.table, port := t.port, passedOn := t.passedOn }

/-- UPDATE_ENTRY: NOT_FOUND, BAD_ARGUMENT for a BARRED entry and PENDING, and otherwise the owner, the share set without it
and strict are rewritten; convert yes makes a CLAIMED entry PINNED. DELETE_ENTRY: NOT_FOUND, or the entry is freed, its
claim slot's link with it, and the reply is its image as it stood. -/
def Obligations.UpdateAndDeleteReachTheMatchingEntry : Prop :=
  ∀ s : State,
    (∀ (m : EntryImage) (convert : Bool), s.readyFor (.updateEntry m (choiceByte convert)) → m.granule.toNat ≤ 1048575 →
      let key : Key := ⟨m.window, m.granule.toNat⟩
      let share := shareWithout m.share m.owner
      ∃ t, exec (.updateEntry m (choiceByte convert)) s = .next t
        ∧ (s.lookup key = none → Answered s t 0x31 .notFound [] ∧ t.table = s.table)
        ∧ (∀ e, s.lookup key = some e →
          (∀ k, s.entry e = .barred k → Answered s t 0x31 .badArgument [] ∧ t.table = s.table)
          ∧ (∀ k c, s.entry e = .claimed k c → c.claimSlot ≠ none → Answered s t 0x31 .pending [] ∧ t.table = s.table)
          ∧ (∀ k c, s.entry e = .claimed k c → c.claimSlot = none → Answered s t 0x31 .done (bytesOf 2 e.val)
              ∧ t.entry e = (if convert then .pinned k ⟨m.owner, share, m.strict⟩
                             else .claimed k { c with owner := m.owner, share := share, strict := m.strict })
              ∧ ∀ j, j ≠ e → t.entry j = s.entry j)
          ∧ (∀ k p, s.entry e = .pinned k p → Answered s t 0x31 .done (bytesOf 2 e.val)
              ∧ t.entry e = .pinned k ⟨m.owner, share, m.strict⟩ ∧ ∀ j, j ≠ e → t.entry j = s.entry j))
        ∧ t = { s with table := t.table, port := t.port, passedOn := t.passedOn })
    ∧ (∀ (w : WindowNo) (g : BitVec 24), s.readyFor (.deleteEntry (indexByte w) g) → g.toNat ≤ 1048575 →
      ∃ t, exec (.deleteEntry (indexByte w) g) s = .next t
        ∧ (s.lookup ⟨w, g.toNat⟩ = none → Answered s t 0x32 .notFound [] ∧ t.table = s.table ∧ t.slots = s.slots)
        ∧ (∀ e, s.lookup ⟨w, g.toNat⟩ = some e → Answered s t 0x32 .done ((s.entry e).image e).bytes
            ∧ (∀ j, t.entry j = if j = e then .free else s.entry j)
            ∧ ∀ k, t.slot k = if (s.entry e).claimSlot? = some k then (s.slot k).unlink else s.slot k)
        ∧ t = { s with table := t.table, slots := t.slots, port := t.port, passedOn := t.passedOn })

/-- An event is merged into the newest record where it coalesces, and is otherwise appended with the next sequence number, or
counted as lost when the queue holds 64 records; nothing but the queue changes. It coalesces exactly when the newest record
is unfetched and both are VIOLATION with one initiator, window, access, reason and audited value, or both MALFORMED with one
initiator, at addresses of one granule: a block of the window's granule size, or a 4 KiB page where there is no window. -/
def Obligations.EventsSettleInTheQueue : Prop :=
  ∀ (s : State) (e : Event),
    let t := s.raise e
    (∀ older newest, s.queue.records = older ++ [newest] → s.coalesces e = true →
      t.queue = { s.queue with records := older ++ [{ newest with repeats := min 255 (newest.repeats + 1) }] })
    ∧ (s.coalesces e = false → s.queue.records.length < 64 →
      t.queue = { s.queue with
        records := s.queue.records ++ [⟨s.queue.nextSequence, e, 1, false⟩]
        nextSequence := s.queue.nextSequence + 1 } ∧ t.attn = true)
    ∧ (s.coalesces e = false → 64 ≤ s.queue.records.length →
      t.queue = { s.queue with lostTally := min 65535 (s.queue.lostTally + 1) })
    ∧ t = { s with queue := t.queue }
    ∧ (s.coalesces e = true ↔ ∃ older newest, s.queue.records = older ++ [newest] ∧ newest.fetched = false
      ∧ ((∃ i w a a' x r d, e = .violation i w a x r d ∧ newest.event = .violation i w a' x r d
            ∧ (∀ v, w = some v → a.toNat / 2 ^ (s.window v).exponent = a'.toNat / 2 ^ (s.window v).exponent)
            ∧ (w = none → a.toNat / 4096 = a'.toNat / 4096))
        ∨ (∃ i a a' l l', e = .malformed i a l ∧ newest.event = .malformed i a' l'
            ∧ a.toNat / 4096 = a'.toNat / 4096)))

/-- FETCH_EVENTS returns the oldest records, at most n of them, oldest first, behind their number and before 16 bytes of 0
for each empty place, and marks exactly those fetched; no record is removed. ACK_EVENTS removes every record through the
one with its sequence number, appends LOST when the tally is nonzero, and tells how many it removed and the newest held;
an absent or unfetched record is refused. -/
def Obligations.FetchMarksAndAckRemoves : Prop :=
  ∀ s : State,
    (∀ n : Byte, 1 ≤ n.toNat → n.toNat ≤ 8 → s.canTake (.command (.fetchEvents n)) = true →
      let shown := s.queue.records.take n.toNat
      ∃ t, exec (.fetchEvents n) s = .next t
        ∧ Answered s t 0x50 .done (BitVec.ofNat 8 shown.length
            :: (shown.flatMap Record.bytes ++ List.replicate (16 * (8 - shown.length)) 0))
        ∧ t.queue = { s.queue with
            records := shown.map (fun r => { r with fetched := true }) ++ s.queue.records.drop n.toNat }
        ∧ t = { s with queue := t.queue, port := t.port, passedOn := t.passedOn })
    ∧ (∀ n : BitVec 16, s.readyFor (.ackEvents n) → s.queue.Lawful →
      ∃ t, exec (.ackEvents n) s = .next t
        ∧ ((∀ r ∈ s.queue.records, r.sequence ≠ n) → Answered s t 0x51 .noSuchRecord [] ∧ t.queue = s.queue)
        ∧ (∀ older r newer, s.queue.records = older ++ r :: newer → r.sequence = n →
          (r.fetched = false → Answered s t 0x51 .notFetched [] ∧ t.queue = s.queue)
          ∧ (r.fetched = true →
            (s.queue.lostTally = 0 → t.queue = { s.queue with records := newer }
              ∧ Answered s t 0x51 .done (BitVec.ofNat 8 (older.length + 1)
                  :: match newer.getLast? with
                     | some last => 1 :: bytesOf 2 last.sequence.toNat
                     | none => [0, 0, 0]))
            ∧ (s.queue.lostTally ≠ 0 →
              t.queue = ⟨newer ++ [⟨s.queue.nextSequence, .lost s.queue.lostTally, 1, false⟩],
                s.queue.nextSequence + 1, 0⟩
              ∧ Answered s t 0x51 .done (BitVec.ofNat 8 (older.length + 1)
                  :: 1 :: bytesOf 2 s.queue.nextSequence.toNat))))
        ∧ t = { s with queue := t.queue, port := t.port, passedOn := t.passedOn })

/-- REPEAT_REPLY returns the stored code, status and results, or NO_REPLY, to the receiver that awaits it, and changes
neither the last reply, the lines nor any block, whether or not RESTART runs. -/
def Obligations.RepeatReplyReturnsTheLastReply : Prop :=
  ∀ s : State, s.canTake (.command .repeatReply) = true →
    ∃ t, exec .repeatReply s = .next t
      ∧ Replied s t (match s.port.lastReply with
          | none => ⟨.noReply, []⟩
          | some r => ⟨.done, r.code :: r.status.code :: r.results⟩)
      ∧ t.port.lastReply = s.port.lastReply
      ∧ t = { s with port := t.port, passedOn := t.passedOn }

/-- ABORT: NO_LONG_COMMAND, NOT_ABORTABLE, or abort requested becomes yes for a running PURGE or REOWN. Once it is, the walk
ends in place of its next step: the kind becomes NONE, every other field of the record stays, and COMMAND_DONE tells the
count so far. No walk step is taken any more: its row leaves the state as it is (assumption log 9). -/
def Obligations.AbortEndsTheWalk : Prop :=
  ∀ s : State,
    (s.readyFor .abort →
      ∃ t, exec .abort s = .next t
        ∧ (s.long.kind = .none → Answered s t 0x74 .noLongCommand [] ∧ t.long = s.long)
        ∧ (s.long.kind = .sweep → Answered s t 0x74 .notAbortable [] ∧ t.long = s.long)
        ∧ (s.long.kind = .purge ∨ s.long.kind = .reown →
            Answered s t 0x74 .done [] ∧ t.long = { s.long with abortRequested := true })
        ∧ t = { s with long := t.long, port := t.port, passedOn := t.passedOn })
    ∧ (s.long.abortRequested = true →
      (s.long.kind = .purge →
        exec .walkEndAborted s = .next { s with long := { s.long with kind := .none },
                                                queue := (s.raise (.commandDone .purge .aborted s.long.affected)).queue }
        ∧ exec .purgeStep s = .next s)
      ∧ (s.long.kind = .reown →
        exec .walkEndAborted s = .next { s with long := { s.long with kind := .none },
                                                queue := (s.raise (.commandDone .reown .aborted s.long.affected)).queue }
        ∧ exec .reownStep s = .next s))

/-- A long command is accepted only while none runs, and then becomes the running one with its own arguments in a record
otherwise cold; SWEEP_NOW asks the Aging Sweep for a sweep and waits for the right one; RESTART's stop step stops the
sweep and holds the timer. While another long command runs, each is refused BUSY and changes nothing. -/
def Obligations.LongCommandsAreAcceptedOneAtATime : Prop :=
  ∀ s : State,
    let cold : LongOp := ⟨.none, 0, none, none, none, none, none, 0, 0, false, none, none, false, false⟩
    let accepted (i : Instr) (code : Byte) (long : LongOp) (sweep : Sweep) : Prop :=
      s.readyFor i →
      ∃ t, exec i s = .next t
        ∧ (s.long.kind = .none → Answered s t code .accepted [] ∧ t.long = long ∧ t.sweep = sweep)
        ∧ (s.long.kind ≠ .none → Answered s t code .busy [] ∧ t.long = s.long ∧ t.sweep = s.sweep)
        ∧ t = { s with long := t.long, sweep := t.sweep, port := t.port, passedOn := t.passedOn }
    (∀ wf of ks, ks ≠ ⟨false, false, false⟩ →
      accepted (.purge (filterByte wf) (filterByte of) (kindSetByte ks)) 0x70
        { cold with kind := .purge, windowFilter := wf, ownerFilter := of, kindSet := some ks } s.sweep)
    ∧ (∀ source target wf, source ≠ target →
      accepted (.reown (indexByte source) (indexByte target) (filterByte wf)) 0x71
        { cold with kind := .reown, windowFilter := wf, source := some source, target := some target } s.sweep)
    ∧ accepted .sweepNow 0x72
        { cold with kind := .sweep, awaited := some (if s.sweep.running then .next else .current) }
        (if s.sweep.running then { s.sweep with pending := true }
         else { s.sweep with running := true, cursor := 0, released := 0 })
    ∧ accepted .restart 0x73 { cold with kind := .restart, stopTime := some s.now }
        { s.sweep with running := false, cursor := 1024, pending := false, expiryDue := false }

/-! ### The Management Port -/

/-- A fall of SEL starts a frame with no bits received, and a rise ends it in whatever state it finds: one cut short after
its first bit and before the last bit of its check byte is reported, and one that has reached its reply leaves no record.
An SCK cycle moves one bit in while SEL is low, and MDO drives 1 until the reply: the eighth bit of a byte makes it the code
or the next argument, and the last argument moves the receiver to CHECK. With SEL high, or in IDLE, it moves nothing. Not in
the manual: MDO drives nothing from the rise of SEL (assumption log 12) and 1 from its fall (log 14), and a fall of SEL while
it is low, or a rise while it is high, does not take place (log 9). -/
def Obligations.FrameReceiverFollowsTheLines : Prop :=
  ∀ (s : State) (b : Bool),
    let moved (r : Receiver) : Prop :=
      exec (.sckCycle b) s = .next { s with port := { s.port with mdo := some true, receiver := r } }
    (s.port.selHigh = true → s.port.receiver = .idle →
      exec .selFall s = .next { s with
        port := { s.port with selHigh := false, mdo := some true, receiver := .code [] } })
    ∧ (s.port.selHigh = false → exec .selFall s = .next s)
    ∧ (s.port.selHigh = true → exec .selRise s = .next s)
    ∧ (s.port.selHigh = false →
      ∃ t, exec .selRise s = .next t
        ∧ t.port = { s.port with selHigh := true, mdo := none, receiver := .idle }
        ∧ (∀ b bits, s.port.receiver = .code (b :: bits) →
            t.queue = (s.raise (.frameFault .unknownLength)).queue)
        ∧ ((∃ c received bits, s.port.receiver = .arguments c received bits ∨ s.port.receiver = .check c received bits) →
            t.queue = (s.raise (.frameFault .short)).queue)
        ∧ (s.port.receiver = .idle ∨ s.port.receiver = .code [] ∨ (∃ p, s.port.receiver = .replying p)
            ∨ s.port.receiver = .trailing → t.queue = s.queue)
        ∧ t = { s with port := t.port, queue := t.queue })
    ∧ (s.port.selHigh = true ∨ s.port.receiver = .idle → exec (.sckCycle b) s = .next s)
    ∧ (s.port.selHigh = false → ∀ bits : List Bool,
      (bits.length < 7 →
        (s.port.receiver = .code bits → moved (.code (bits ++ [b])))
        ∧ ∀ c received,
          (s.port.receiver = .arguments c received bits → moved (.arguments c received (bits ++ [b])))
          ∧ (s.port.receiver = .check c received bits → moved (.check c received (bits ++ [b]))))
      ∧ (bits.length = 7 → ∀ c : Command,
        (s.port.receiver = .code bits → byteOf (bits ++ [b]) = c.code →
          moved (if c.argBytes = 0 then .check c [] [] else .arguments c [] []))
        ∧ ∀ received, s.port.receiver = .arguments c received bits →
          (received.length + 1 < c.argBytes → moved (.arguments c (received ++ [byteOf (bits ++ [b])]) []))
          ∧ (received.length + 1 = c.argBytes → moved (.check c (received ++ [byteOf (bits ++ [b])]) []))))
    ∧ (s.port.selHigh = false → s.port.receiver = .trailing → moved .trailing)

/-- A code byte that names no command is answered UNKNOWN_COMMAND at its eighth bit, after at least one filler byte, and
neither the last reply, the frames held nor any block changes; the same where the row UNKNOWN_COMMAND completes the byte from
any beginning of it, which is the model's choice (assumption log 8). How many filler bytes follow is free (assumption log 6).
A frame whose check byte does not match is answered BAD_CHECK, and that reply is stored. -/
def Obligations.UnknownAndMismatchedFramesAreAnswered : Prop :=
  ∀ (s : State) (code : Byte),
    (Command.ofCode code = none → s.port.selHigh = false →
      let answered (t : State) : Prop :=
        t.port.receiver = .replying (.filler (1 + Config.extraFiller s.port.replyCount) 0 (some ⟨.unknownCommand, []⟩))
        ∧ t.port.replyMade = some ⟨.unknownCommand, []⟩ ∧ t.port.lastReply = s.port.lastReply
        ∧ t.port.mdo = some true ∧ t.port.selHigh = false ∧ t = { s with port := t.port }
      (∀ bits b, s.port.receiver = .code bits → bits ++ [b] = bitsOf code →
        ∃ t, exec (.sckCycle b) s = .next t ∧ answered t)
      ∧ (∀ bits rest, s.port.receiver = .code bits → bits ++ rest = bitsOf code →
        ∃ t, exec (.unknownCommand code) s = .next t ∧ answered t))
    ∧ (∀ c, Command.ofCode code = some c → s.canTake (.badCheck code) = true →
      ∃ t, exec (.checkMismatch code) s = .next t ∧ Answered s t code .badCheck []
        ∧ t = { s with port := t.port, passedOn := t.passedOn })

/-- A reply leaves on MDO, most significant bit first: the rest of the present filler byte and the filler bytes still owed,
the start byte 0x5A, the status, the results and the check byte over status and results, and then 1 for as long as SCK runs.
Until the reply is ready the part drives 1. Whatever arrives on MDI meanwhile, nothing but the receiver and MDO changes. That
the start byte begins only where a filler byte ends is the model's choice (assumption log 6). -/
def Obligations.RepliesAreClockedOut : Prop :=
  ∀ (s : State) (mdi : List Bool), s.port.selHigh = false →
    (∃ t, execAll (mdi.map .sckCycle) s = .next t ∧
      ((∃ p, s.port.receiver = .replying p) ∨ s.port.receiver = .trailing →
        t = { s with port := { s.port with mdo := t.port.mdo, receiver := t.port.receiver } }))
    ∧ (∀ owed bit, bit < 8 → s.port.receiver = .replying (.filler owed bit none) →
      mdoBits mdi s = mdi.map fun _ => some true)
    ∧ (∀ owed bit reply, bit < 8 → s.port.receiver = .replying (.filler owed bit (some reply)) →
      let fillerBits := 8 * (if bit = 0 then owed else max owed 1) - bit
      let bytes := 0x5A :: reply.status.code :: (reply.results ++ [crc8 (reply.status.code :: reply.results)])
      mdoBits mdi s = ((List.replicate fillerBits true ++ bytes.flatMap bitsOf
        ++ List.replicate mdi.length true).take mdi.length).map some)

/-- The frame of every management command, clocked in bit by bit from the fall of SEL, is passed on as that command when
its check byte is the remainder over its code and arguments, and as a frame to be answered BAD_CHECK for any other check
byte. Nothing else of the part changes while it is clocked in. -/
def Obligations.FramesArePassedOnWhenChecked : Prop :=
  ∀ (s : State) (i : Instr) (c : Command) (bs : List Byte) (check : Byte), frameOf i = some (c, bs) →
    s.port.selHigh = true → s.port.receiver = .idle →
    let held := if check = crc8 (c.code :: bs) then PassedOn.command i else .badCheck c.code
    execAll (.selFall :: clockIn (c.code :: (bs ++ [check]))) s = .next { s with
      port := { s.port with
        selHigh := false, mdo := some true
        receiver := .replying (.filler (1 + Config.extraFiller s.port.replyCount) 0 none)
        replyCount := s.port.replyCount + 1 }
      passedOn := s.passedOn ++ [held] }

/-- The argument bytes of every management command are as many as its code asks for, and spell that command and no other;
and its code byte names its command. -/
def Obligations.FrameBytesSpellTheirCommand : Prop :=
  ∀ (i : Instr) (c : Command) (bs : List Byte), frameOf i = some (c, bs) →
    Command.ofCode c.code = some c ∧ bs.length = c.argBytes ∧ decodeArgs c bs = some i

/-- The check byte tells apart any two frames that differ in one byte, and a frame followed by its own check byte leaves
the remainder 0. -/
def Obligations.CheckByteDetectsOneWrongByte : Prop :=
  ∀ bs : List Byte, crc8 (bs ++ [crc8 bs]) = 0
    ∧ ∀ (a b : Byte) (before after : List Byte), crc8 (before ++ a :: after) = crc8 (before ++ b :: after) → a = b

/-! ### Laws that every step keeps -/

/-- Every step keeps the Window Map's laws (bases are multiples of the granule size, ends are at most 2^40, and no address
lies in two enabled windows) and the Granule Table's (each key at most once, in its own bucket and inside its window, no
owner in its own share set, and ages of 0 to 6). -/
def Obligations.StepsKeepTheWindowAndTableLaws : Prop :=
  ∀ s t : State, s.WindowsLawful ∧ s.TableLawful → step s = .next t → t.WindowsLawful ∧ t.TableLawful

/-- Every step keeps the return-order lists and the forward queue as the slots ask (each listed slot once, in its
initiator's list, and exactly the QUEUED ones in the forward queue), and keeps a claim's slot and a slot's claim one
association, of writes only. -/
def Obligations.StepsKeepTheTrackerLaws : Prop :=
  ∀ s t : State, s.OrdersLawful ∧ s.LinksLawful → step s = .next t → t.OrdersLawful ∧ t.LinksLawful

/-- Every step keeps the Event Queue's laws: at most 64 records with consecutive sequence numbers, and a lost tally only
while 64 are held. -/
def Obligations.StepsKeepTheEventQueueLaws : Prop :=
  ∀ s t : State, s.queue.Lawful → step s = .next t → t.queue.Lawful

/-- Every step keeps the laws of the Aging Sweep and of the long-operation record; and every step leaves no timed happening
overdue where none was: no deadline, drain limit, forced timeout, millisecond boundary or timer expiry is ever passed by the
time base (the time base is as in assumption log 3). -/
def Obligations.StepsKeepTheSweepAndLongCommandLaws : Prop :=
  ∀ s t : State, step s = .next t →
    (s.sweep.Lawful ∧ s.LongLawful → t.sweep.Lawful ∧ t.LongLawful)
    ∧ (s.TimesLawful → t.TimesLawful)

/-- Every step keeps the ranges of the gate records, each request in its initiator's lane, and the frame receiver's
laws. -/
def Obligations.StepsKeepTheGateLaneAndPortLaws : Prop :=
  ∀ s t : State, s.gatesLawful ∧ s.lanesLawful ∧ s.PortLawful → step s = .next t →
    t.gatesLawful ∧ t.lanesLawful ∧ t.PortLawful

/-! ### What only some commands can do -/

/-- A request reaches the memory controller only by a SEND of the forward queue's head, and a response leaves upstream only
by a DEPARTURE of the head of an initiator's list. -/
def Obligations.OnlySendAndDepartureReachOutside : Prop :=
  ∀ s t : State, step s = .next t →
    (t.sentDown = s.sentDown ∨ ∃ rest k q a p l, s.pending = .send :: rest ∧ s.forwardQueue = k :: q
      ∧ s.slot k = .queued a p l ∧ t.sentDown = s.sentDown ++ [⟨k, a.kind, a.addr, a.length, p.data, p.enables⟩])
    ∧ (t.leftUp = s.leftUp ∨ ∃ rest i k l a p r o, s.pending = .departure :: rest ∧ s.returnList i = k :: l
      ∧ s.slot k = .ready a p r o ∧ t.leftUp = s.leftUp ++ [⟨a.initiator, a.tag, r.status, r.data⟩])

/-- Short of cold reset, a slot moves only as the tracker's states allow, and keeps its access until it is freed: FREE to
QUEUED or READY, QUEUED to OUTSTANDING or a forced timeout, OUTSTANDING to READY, READY to FREE or, with the orphan mark,
ORPHANED, and ORPHANED to FREE. -/
def Obligations.SlotsMoveOnlyAsTheirStatesAllow : Prop :=
  ∀ (s t : State) (k : SlotNo), (∀ rest, s.pending ≠ .coldReset :: rest) → step s = .next t →
    (s.slot k = .free → t.slot k = .free ∨ (∃ a p l, t.slot k = .queued a p l) ∨ ∃ a p r, t.slot k = .ready a p r false)
    ∧ (∀ a p l, s.slot k = .queued a p l →
      (∃ l', (l' = l ∨ l' = none) ∧ t.slot k = .queued a p l')
      ∨ (∃ d, t.slot k = .outstanding a l d) ∨ t.slot k = .ready a ⟨[], []⟩ ⟨.error, []⟩ true)
    ∧ (∀ a l d, s.slot k = .outstanding a l d →
      (∃ l', (l' = l ∨ l' = none) ∧ t.slot k = .outstanding a l' d) ∨ ∃ r o, t.slot k = .ready a ⟨[], []⟩ r o)
    ∧ (∀ a p r o, s.slot k = .ready a p r o →
      t.slot k = .ready a p r o ∨ t.slot k = .ready a p r false
      ∨ t.slot k = if o then .orphaned a else .free)
    ∧ (∀ a, s.slot k = .orphaned a → t.slot k = .orphaned a ∨ t.slot k = .free)

/-- No traffic, no aging, no timeout and no RESTART changes a PINNED or BARRED entry: only UPDATE_ENTRY, DELETE_ENTRY, a
PURGE or REOWN step and cold reset do. -/
def Obligations.PinnedAndBarredEntriesStay : Prop :=
  ∀ (s t : State) (e : EntryIndex), s.LinksLawful → step s = .next t →
    ((∃ key pin, s.entry e = .pinned key pin) ∨ ∃ key, s.entry e = .barred key) →
    (∀ i rest, s.pending = i :: rest → i ≠ .coldReset ∧ i ≠ .purgeStep ∧ i ≠ .reownStep
      ∧ (∀ m c, i ≠ .updateEntry m c) ∧ ∀ w g, i ≠ .deleteEntry w g) →
    t.entry e = s.entry e

/-- No request, no answer, no timed happening and no bit on the port changes what the controller has set: windows, outside
policy, timers and gate configuration change only by a management command or cold reset. -/
def Obligations.PolicyChangesOnlyByCommand : Prop :=
  ∀ s t : State, step s = .next t →
    (∀ i rest, s.pending = i :: rest → frameOf i = none ∧ i ≠ .coldReset) →
    t.windows = s.windows ∧ t.outside = s.outside ∧ t.responseTimeout = s.responseTimeout
    ∧ t.sweep.interval = s.sweep.interval
    ∧ ∀ i, (t.gate i).privileged = (s.gate i).privileged ∧ (t.gate i).tripThreshold = (s.gate i).tripThreshold
      ∧ (t.gate i).budgetOn = (s.gate i).budgetOn ∧ (t.gate i).exhaust = (s.gate i).exhaust

/-- A write from an OPEN gate that is not privileged reaches the forward queue, in a LEARN or FIXED window, only where its
initiator owns the granule, has just claimed it, or the window passes a full bucket unowned; and never where the granule
is BARRED or another initiator's. -/
def Obligations.EnforcedWritesNeedOwnership : Prop :=
  ∀ (s t : State) (i : Initiator) (r : Request) (k : SlotNo) (key : Key), s.Admits i r k →
    (s.gate i).state = .opened → (s.gate i).privileged = false → r.kind = .write → s.findKey r.addr = some key →
    (s.window key.window).mode = .learn ∨ (s.window key.window).mode = .fixed →
    exec .admission s = .next t → (∃ a p l, t.slot k = .queued a p l) →
    (∃ e, s.lookup key = some e
      ∧ ((∃ c, s.entry e = .claimed key c ∧ c.owner = i) ∨ ∃ p, s.entry e = .pinned key p ∧ p.owner = i))
    ∨ ((s.window key.window).mode = .learn ∧ s.lookup key = none
      ∧ ((∃ e c, t.entry e = .claimed key c ∧ c.owner = i ∧ c.claimSlot = some k)
        ∨ ((s.window key.window).fullAction = .passUnowned ∧ ∀ e ∈ key.ways, s.entry e ≠ .free)))
end

