-- ==== Sys2Proof/Laws/Vec.lean ====
section
/-! SUPPORT. The laws of the fixed-length vector: what a record reads as after a replacement, a map and a replication,
and that a vector is known by its records. -/

namespace Sys2Proof

variable {α β : Type} {n : Nat}

@[simp] theorem Vec.get_set_self (v : Vec α n) (i : Fin n) (a : α) : (v.set i a).get i = a := by
  simp [Vec.get, Vec.set]

theorem Vec.get_set_of_ne (v : Vec α n) {i j : Fin n} (a : α) (h : j ≠ i) : (v.set i a).get j = v.get j := by
  have : i.val ≠ j.val := fun e => h (Fin.ext e.symm)
  simp [Vec.get, Vec.set, this]

theorem Vec.get_set (v : Vec α n) (i j : Fin n) (a : α) : (v.set i a).get j = if j = i then a else v.get j := by
  by_cases h : j = i
  · subst h; simp
  · simp [h, Vec.get_set_of_ne]

@[simp] theorem Vec.get_replicate (a : α) (i : Fin n) : (Vec.replicate n a).get i = a := by
  simp [Vec.get, Vec.replicate]

@[simp] theorem Vec.get_map (f : α → β) (v : Vec α n) (i : Fin n) : (v.map f).get i = f (v.get i) := by
  simp [Vec.get, Vec.map]

/-- Two vectors with the same records are equal. -/
theorem Vec.ext_get {v w : Vec α n} (h : ∀ i, v.get i = w.get i) : v = w := by
  obtain ⟨l, hl⟩ := v
  obtain ⟨m, hm⟩ := w
  have : l = m := by
    apply List.ext_get (hl.trans hm.symm)
    intro k h1 h2
    exact h ⟨k, hl ▸ h1⟩
  subst this
  rfl

@[simp] theorem Vec.set_get (v : Vec α n) (i : Fin n) : v.set i (v.get i) = v := by
  apply Vec.ext_get
  intro j
  by_cases h : j = i
  · subst h; simp
  · simp [Vec.get_set_of_ne, h]

/-- A vector's records are those its list holds. -/
theorem Vec.mem_toList (v : Vec α n) (a : α) : a ∈ v.toList ↔ ∃ i, v.get i = a := by
  constructor
  · intro h
    obtain ⟨k, hk⟩ := List.mem_iff_get.mp h
    exact ⟨⟨k.val, lt_of_lt_of_eq k.isLt v.len⟩, hk⟩
  · rintro ⟨i, rfl⟩
    exact List.get_mem _ _

/-- No record satisfies a predicate exactly when the count of those that do is 0. -/
theorem Vec.count_eq_zero (p : α → Bool) (v : Vec α n) : v.count p = 0 ↔ ∀ i, p (v.get i) = false := by
  simp only [Vec.count, List.countP_eq_zero, Vec.mem_toList]
  constructor
  · intro h i
    simpa using h _ ⟨i, rfl⟩
  · rintro h a ⟨i, rfl⟩
    simp [h i]

/-- Counting by tests that agree. -/
theorem Vec.count_congr {p q : α → Bool} (v : Vec α n) (h : ∀ a, p a = q a) : v.count p = v.count q := by
  rw [funext h]

end Sys2Proof
end

