-- ==== Sys2Proof/Laws/State.lean ====
section
/-! SUPPORT. The laws of the state's named updates: what each field, and each numbered record, reads as after each
update. -/

namespace Sys2Proof.Machine

variable (s : State)

@[simp] theorem State.putLane_lanes (i : Initiator) (v : Option Request) : (s.putLane i v).lanes = s.lanes.set i v := rfl
@[simp] theorem State.putLane_roundRobin (i : Initiator) (v : Option Request) : (s.putLane i v).roundRobin = s.roundRobin := rfl
@[simp] theorem State.putLane_windows (i : Initiator) (v : Option Request) : (s.putLane i v).windows = s.windows := rfl
@[simp] theorem State.putLane_outside (i : Initiator) (v : Option Request) : (s.putLane i v).outside = s.outside := rfl
@[simp] theorem State.putLane_table (i : Initiator) (v : Option Request) : (s.putLane i v).table = s.table := rfl
@[simp] theorem State.putLane_gates (i : Initiator) (v : Option Request) : (s.putLane i v).gates = s.gates := rfl
@[simp] theorem State.putLane_slots (i : Initiator) (v : Option Request) : (s.putLane i v).slots = s.slots := rfl
@[simp] theorem State.putLane_returnLists (i : Initiator) (v : Option Request) : (s.putLane i v).returnLists = s.returnLists := rfl
@[simp] theorem State.putLane_forwardQueue (i : Initiator) (v : Option Request) : (s.putLane i v).forwardQueue = s.forwardQueue := rfl
@[simp] theorem State.putLane_responseTimeout (i : Initiator) (v : Option Request) : (s.putLane i v).responseTimeout = s.responseTimeout := rfl
@[simp] theorem State.putLane_responsePointer (i : Initiator) (v : Option Request) : (s.putLane i v).responsePointer = s.responsePointer := rfl
@[simp] theorem State.putLane_sweep (i : Initiator) (v : Option Request) : (s.putLane i v).sweep = s.sweep := rfl
@[simp] theorem State.putLane_queue (i : Initiator) (v : Option Request) : (s.putLane i v).queue = s.queue := rfl
@[simp] theorem State.putLane_port (i : Initiator) (v : Option Request) : (s.putLane i v).port = s.port := rfl
@[simp] theorem State.putLane_passedOn (i : Initiator) (v : Option Request) : (s.putLane i v).passedOn = s.passedOn := rfl
@[simp] theorem State.putLane_long (i : Initiator) (v : Option Request) : (s.putLane i v).long = s.long := rfl
@[simp] theorem State.putLane_now (i : Initiator) (v : Option Request) : (s.putLane i v).now = s.now := rfl
@[simp] theorem State.putLane_sentDown (i : Initiator) (v : Option Request) : (s.putLane i v).sentDown = s.sentDown := rfl
@[simp] theorem State.putLane_leftUp (i : Initiator) (v : Option Request) : (s.putLane i v).leftUp = s.leftUp := rfl
@[simp] theorem State.putLane_pending (i : Initiator) (v : Option Request) : (s.putLane i v).pending = s.pending := rfl
@[simp] theorem State.lane_putLane_self (i : Initiator) (v : Option Request) : (s.putLane i v).lane i = v := Vec.get_set_self _ _ _
theorem State.lane_putLane_of_ne (i : Initiator) (v : Option Request) (j : Initiator) (h : j ≠ i) : (s.putLane i v).lane j = s.lane j :=
  Vec.get_set_of_ne _ _ h
theorem State.lane_putLane (i : Initiator) (v : Option Request) (j : Initiator) : (s.putLane i v).lane j = if j = i then v else s.lane j :=
  Vec.get_set _ _ _ _
@[simp] theorem State.putLane_lane (i : Initiator) : s.putLane i (s.lane i) = s := by
  simp [State.putLane, State.lane]
@[simp] theorem State.window_putLane (i : Initiator) (v : Option Request) (j : WindowNo) : (s.putLane i v).window j = s.window j := rfl
@[simp] theorem State.entry_putLane (i : Initiator) (v : Option Request) (j : EntryIndex) : (s.putLane i v).entry j = s.entry j := rfl
@[simp] theorem State.gate_putLane (i : Initiator) (v : Option Request) (j : Initiator) : (s.putLane i v).gate j = s.gate j := rfl
@[simp] theorem State.slot_putLane (i : Initiator) (v : Option Request) (j : SlotNo) : (s.putLane i v).slot j = s.slot j := rfl
@[simp] theorem State.returnList_putLane (i : Initiator) (v : Option Request) (j : Initiator) : (s.putLane i v).returnList j = s.returnList j := rfl

@[simp] theorem State.putWindow_lanes (i : WindowNo) (v : Window) : (s.putWindow i v).lanes = s.lanes := rfl
@[simp] theorem State.putWindow_roundRobin (i : WindowNo) (v : Window) : (s.putWindow i v).roundRobin = s.roundRobin := rfl
@[simp] theorem State.putWindow_windows (i : WindowNo) (v : Window) : (s.putWindow i v).windows = s.windows.set i v := rfl
@[simp] theorem State.putWindow_outside (i : WindowNo) (v : Window) : (s.putWindow i v).outside = s.outside := rfl
@[simp] theorem State.putWindow_table (i : WindowNo) (v : Window) : (s.putWindow i v).table = s.table := rfl
@[simp] theorem State.putWindow_gates (i : WindowNo) (v : Window) : (s.putWindow i v).gates = s.gates := rfl
@[simp] theorem State.putWindow_slots (i : WindowNo) (v : Window) : (s.putWindow i v).slots = s.slots := rfl
@[simp] theorem State.putWindow_returnLists (i : WindowNo) (v : Window) : (s.putWindow i v).returnLists = s.returnLists := rfl
@[simp] theorem State.putWindow_forwardQueue (i : WindowNo) (v : Window) : (s.putWindow i v).forwardQueue = s.forwardQueue := rfl
@[simp] theorem State.putWindow_responseTimeout (i : WindowNo) (v : Window) : (s.putWindow i v).responseTimeout = s.responseTimeout := rfl
@[simp] theorem State.putWindow_responsePointer (i : WindowNo) (v : Window) : (s.putWindow i v).responsePointer = s.responsePointer := rfl
@[simp] theorem State.putWindow_sweep (i : WindowNo) (v : Window) : (s.putWindow i v).sweep = s.sweep := rfl
@[simp] theorem State.putWindow_queue (i : WindowNo) (v : Window) : (s.putWindow i v).queue = s.queue := rfl
@[simp] theorem State.putWindow_port (i : WindowNo) (v : Window) : (s.putWindow i v).port = s.port := rfl
@[simp] theorem State.putWindow_passedOn (i : WindowNo) (v : Window) : (s.putWindow i v).passedOn = s.passedOn := rfl
@[simp] theorem State.putWindow_long (i : WindowNo) (v : Window) : (s.putWindow i v).long = s.long := rfl
@[simp] theorem State.putWindow_now (i : WindowNo) (v : Window) : (s.putWindow i v).now = s.now := rfl
@[simp] theorem State.putWindow_sentDown (i : WindowNo) (v : Window) : (s.putWindow i v).sentDown = s.sentDown := rfl
@[simp] theorem State.putWindow_leftUp (i : WindowNo) (v : Window) : (s.putWindow i v).leftUp = s.leftUp := rfl
@[simp] theorem State.putWindow_pending (i : WindowNo) (v : Window) : (s.putWindow i v).pending = s.pending := rfl
@[simp] theorem State.lane_putWindow (i : WindowNo) (v : Window) (j : Initiator) : (s.putWindow i v).lane j = s.lane j := rfl
@[simp] theorem State.window_putWindow_self (i : WindowNo) (v : Window) : (s.putWindow i v).window i = v := Vec.get_set_self _ _ _
theorem State.window_putWindow_of_ne (i : WindowNo) (v : Window) (j : WindowNo) (h : j ≠ i) : (s.putWindow i v).window j = s.window j :=
  Vec.get_set_of_ne _ _ h
theorem State.window_putWindow (i : WindowNo) (v : Window) (j : WindowNo) : (s.putWindow i v).window j = if j = i then v else s.window j :=
  Vec.get_set _ _ _ _
@[simp] theorem State.putWindow_window (i : WindowNo) : s.putWindow i (s.window i) = s := by
  simp [State.putWindow, State.window]
@[simp] theorem State.entry_putWindow (i : WindowNo) (v : Window) (j : EntryIndex) : (s.putWindow i v).entry j = s.entry j := rfl
@[simp] theorem State.gate_putWindow (i : WindowNo) (v : Window) (j : Initiator) : (s.putWindow i v).gate j = s.gate j := rfl
@[simp] theorem State.slot_putWindow (i : WindowNo) (v : Window) (j : SlotNo) : (s.putWindow i v).slot j = s.slot j := rfl
@[simp] theorem State.returnList_putWindow (i : WindowNo) (v : Window) (j : Initiator) : (s.putWindow i v).returnList j = s.returnList j := rfl

@[simp] theorem State.putEntry_lanes (i : EntryIndex) (v : Entry) : (s.putEntry i v).lanes = s.lanes := rfl
@[simp] theorem State.putEntry_roundRobin (i : EntryIndex) (v : Entry) : (s.putEntry i v).roundRobin = s.roundRobin := rfl
@[simp] theorem State.putEntry_windows (i : EntryIndex) (v : Entry) : (s.putEntry i v).windows = s.windows := rfl
@[simp] theorem State.putEntry_outside (i : EntryIndex) (v : Entry) : (s.putEntry i v).outside = s.outside := rfl
@[simp] theorem State.putEntry_table (i : EntryIndex) (v : Entry) : (s.putEntry i v).table = s.table.set i v := rfl
@[simp] theorem State.putEntry_gates (i : EntryIndex) (v : Entry) : (s.putEntry i v).gates = s.gates := rfl
@[simp] theorem State.putEntry_slots (i : EntryIndex) (v : Entry) : (s.putEntry i v).slots = s.slots := rfl
@[simp] theorem State.putEntry_returnLists (i : EntryIndex) (v : Entry) : (s.putEntry i v).returnLists = s.returnLists := rfl
@[simp] theorem State.putEntry_forwardQueue (i : EntryIndex) (v : Entry) : (s.putEntry i v).forwardQueue = s.forwardQueue := rfl
@[simp] theorem State.putEntry_responseTimeout (i : EntryIndex) (v : Entry) : (s.putEntry i v).responseTimeout = s.responseTimeout := rfl
@[simp] theorem State.putEntry_responsePointer (i : EntryIndex) (v : Entry) : (s.putEntry i v).responsePointer = s.responsePointer := rfl
@[simp] theorem State.putEntry_sweep (i : EntryIndex) (v : Entry) : (s.putEntry i v).sweep = s.sweep := rfl
@[simp] theorem State.putEntry_queue (i : EntryIndex) (v : Entry) : (s.putEntry i v).queue = s.queue := rfl
@[simp] theorem State.putEntry_port (i : EntryIndex) (v : Entry) : (s.putEntry i v).port = s.port := rfl
@[simp] theorem State.putEntry_passedOn (i : EntryIndex) (v : Entry) : (s.putEntry i v).passedOn = s.passedOn := rfl
@[simp] theorem State.putEntry_long (i : EntryIndex) (v : Entry) : (s.putEntry i v).long = s.long := rfl
@[simp] theorem State.putEntry_now (i : EntryIndex) (v : Entry) : (s.putEntry i v).now = s.now := rfl
@[simp] theorem State.putEntry_sentDown (i : EntryIndex) (v : Entry) : (s.putEntry i v).sentDown = s.sentDown := rfl
@[simp] theorem State.putEntry_leftUp (i : EntryIndex) (v : Entry) : (s.putEntry i v).leftUp = s.leftUp := rfl
@[simp] theorem State.putEntry_pending (i : EntryIndex) (v : Entry) : (s.putEntry i v).pending = s.pending := rfl
@[simp] theorem State.lane_putEntry (i : EntryIndex) (v : Entry) (j : Initiator) : (s.putEntry i v).lane j = s.lane j := rfl
@[simp] theorem State.window_putEntry (i : EntryIndex) (v : Entry) (j : WindowNo) : (s.putEntry i v).window j = s.window j := rfl
@[simp] theorem State.entry_putEntry_self (i : EntryIndex) (v : Entry) : (s.putEntry i v).entry i = v := Vec.get_set_self _ _ _
theorem State.entry_putEntry_of_ne (i : EntryIndex) (v : Entry) (j : EntryIndex) (h : j ≠ i) : (s.putEntry i v).entry j = s.entry j :=
  Vec.get_set_of_ne _ _ h
theorem State.entry_putEntry (i : EntryIndex) (v : Entry) (j : EntryIndex) : (s.putEntry i v).entry j = if j = i then v else s.entry j :=
  Vec.get_set _ _ _ _
@[simp] theorem State.putEntry_entry (i : EntryIndex) : s.putEntry i (s.entry i) = s := by
  simp [State.putEntry, State.entry]
@[simp] theorem State.gate_putEntry (i : EntryIndex) (v : Entry) (j : Initiator) : (s.putEntry i v).gate j = s.gate j := rfl
@[simp] theorem State.slot_putEntry (i : EntryIndex) (v : Entry) (j : SlotNo) : (s.putEntry i v).slot j = s.slot j := rfl
@[simp] theorem State.returnList_putEntry (i : EntryIndex) (v : Entry) (j : Initiator) : (s.putEntry i v).returnList j = s.returnList j := rfl

@[simp] theorem State.putGate_lanes (i : Initiator) (v : Gate) : (s.putGate i v).lanes = s.lanes := rfl
@[simp] theorem State.putGate_roundRobin (i : Initiator) (v : Gate) : (s.putGate i v).roundRobin = s.roundRobin := rfl
@[simp] theorem State.putGate_windows (i : Initiator) (v : Gate) : (s.putGate i v).windows = s.windows := rfl
@[simp] theorem State.putGate_outside (i : Initiator) (v : Gate) : (s.putGate i v).outside = s.outside := rfl
@[simp] theorem State.putGate_table (i : Initiator) (v : Gate) : (s.putGate i v).table = s.table := rfl
@[simp] theorem State.putGate_gates (i : Initiator) (v : Gate) : (s.putGate i v).gates = s.gates.set i v := rfl
@[simp] theorem State.putGate_slots (i : Initiator) (v : Gate) : (s.putGate i v).slots = s.slots := rfl
@[simp] theorem State.putGate_returnLists (i : Initiator) (v : Gate) : (s.putGate i v).returnLists = s.returnLists := rfl
@[simp] theorem State.putGate_forwardQueue (i : Initiator) (v : Gate) : (s.putGate i v).forwardQueue = s.forwardQueue := rfl
@[simp] theorem State.putGate_responseTimeout (i : Initiator) (v : Gate) : (s.putGate i v).responseTimeout = s.responseTimeout := rfl
@[simp] theorem State.putGate_responsePointer (i : Initiator) (v : Gate) : (s.putGate i v).responsePointer = s.responsePointer := rfl
@[simp] theorem State.putGate_sweep (i : Initiator) (v : Gate) : (s.putGate i v).sweep = s.sweep := rfl
@[simp] theorem State.putGate_queue (i : Initiator) (v : Gate) : (s.putGate i v).queue = s.queue := rfl
@[simp] theorem State.putGate_port (i : Initiator) (v : Gate) : (s.putGate i v).port = s.port := rfl
@[simp] theorem State.putGate_passedOn (i : Initiator) (v : Gate) : (s.putGate i v).passedOn = s.passedOn := rfl
@[simp] theorem State.putGate_long (i : Initiator) (v : Gate) : (s.putGate i v).long = s.long := rfl
@[simp] theorem State.putGate_now (i : Initiator) (v : Gate) : (s.putGate i v).now = s.now := rfl
@[simp] theorem State.putGate_sentDown (i : Initiator) (v : Gate) : (s.putGate i v).sentDown = s.sentDown := rfl
@[simp] theorem State.putGate_leftUp (i : Initiator) (v : Gate) : (s.putGate i v).leftUp = s.leftUp := rfl
@[simp] theorem State.putGate_pending (i : Initiator) (v : Gate) : (s.putGate i v).pending = s.pending := rfl
@[simp] theorem State.lane_putGate (i : Initiator) (v : Gate) (j : Initiator) : (s.putGate i v).lane j = s.lane j := rfl
@[simp] theorem State.window_putGate (i : Initiator) (v : Gate) (j : WindowNo) : (s.putGate i v).window j = s.window j := rfl
@[simp] theorem State.entry_putGate (i : Initiator) (v : Gate) (j : EntryIndex) : (s.putGate i v).entry j = s.entry j := rfl
@[simp] theorem State.gate_putGate_self (i : Initiator) (v : Gate) : (s.putGate i v).gate i = v := Vec.get_set_self _ _ _
theorem State.gate_putGate_of_ne (i : Initiator) (v : Gate) (j : Initiator) (h : j ≠ i) : (s.putGate i v).gate j = s.gate j :=
  Vec.get_set_of_ne _ _ h
theorem State.gate_putGate (i : Initiator) (v : Gate) (j : Initiator) : (s.putGate i v).gate j = if j = i then v else s.gate j :=
  Vec.get_set _ _ _ _
@[simp] theorem State.putGate_gate (i : Initiator) : s.putGate i (s.gate i) = s := by
  simp [State.putGate, State.gate]
@[simp] theorem State.slot_putGate (i : Initiator) (v : Gate) (j : SlotNo) : (s.putGate i v).slot j = s.slot j := rfl
@[simp] theorem State.returnList_putGate (i : Initiator) (v : Gate) (j : Initiator) : (s.putGate i v).returnList j = s.returnList j := rfl

@[simp] theorem State.putSlot_lanes (i : SlotNo) (v : Slot) : (s.putSlot i v).lanes = s.lanes := rfl
@[simp] theorem State.putSlot_roundRobin (i : SlotNo) (v : Slot) : (s.putSlot i v).roundRobin = s.roundRobin := rfl
@[simp] theorem State.putSlot_windows (i : SlotNo) (v : Slot) : (s.putSlot i v).windows = s.windows := rfl
@[simp] theorem State.putSlot_outside (i : SlotNo) (v : Slot) : (s.putSlot i v).outside = s.outside := rfl
@[simp] theorem State.putSlot_table (i : SlotNo) (v : Slot) : (s.putSlot i v).table = s.table := rfl
@[simp] theorem State.putSlot_gates (i : SlotNo) (v : Slot) : (s.putSlot i v).gates = s.gates := rfl
@[simp] theorem State.putSlot_slots (i : SlotNo) (v : Slot) : (s.putSlot i v).slots = s.slots.set i v := rfl
@[simp] theorem State.putSlot_returnLists (i : SlotNo) (v : Slot) : (s.putSlot i v).returnLists = s.returnLists := rfl
@[simp] theorem State.putSlot_forwardQueue (i : SlotNo) (v : Slot) : (s.putSlot i v).forwardQueue = s.forwardQueue := rfl
@[simp] theorem State.putSlot_responseTimeout (i : SlotNo) (v : Slot) : (s.putSlot i v).responseTimeout = s.responseTimeout := rfl
@[simp] theorem State.putSlot_responsePointer (i : SlotNo) (v : Slot) : (s.putSlot i v).responsePointer = s.responsePointer := rfl
@[simp] theorem State.putSlot_sweep (i : SlotNo) (v : Slot) : (s.putSlot i v).sweep = s.sweep := rfl
@[simp] theorem State.putSlot_queue (i : SlotNo) (v : Slot) : (s.putSlot i v).queue = s.queue := rfl
@[simp] theorem State.putSlot_port (i : SlotNo) (v : Slot) : (s.putSlot i v).port = s.port := rfl
@[simp] theorem State.putSlot_passedOn (i : SlotNo) (v : Slot) : (s.putSlot i v).passedOn = s.passedOn := rfl
@[simp] theorem State.putSlot_long (i : SlotNo) (v : Slot) : (s.putSlot i v).long = s.long := rfl
@[simp] theorem State.putSlot_now (i : SlotNo) (v : Slot) : (s.putSlot i v).now = s.now := rfl
@[simp] theorem State.putSlot_sentDown (i : SlotNo) (v : Slot) : (s.putSlot i v).sentDown = s.sentDown := rfl
@[simp] theorem State.putSlot_leftUp (i : SlotNo) (v : Slot) : (s.putSlot i v).leftUp = s.leftUp := rfl
@[simp] theorem State.putSlot_pending (i : SlotNo) (v : Slot) : (s.putSlot i v).pending = s.pending := rfl
@[simp] theorem State.lane_putSlot (i : SlotNo) (v : Slot) (j : Initiator) : (s.putSlot i v).lane j = s.lane j := rfl
@[simp] theorem State.window_putSlot (i : SlotNo) (v : Slot) (j : WindowNo) : (s.putSlot i v).window j = s.window j := rfl
@[simp] theorem State.entry_putSlot (i : SlotNo) (v : Slot) (j : EntryIndex) : (s.putSlot i v).entry j = s.entry j := rfl
@[simp] theorem State.gate_putSlot (i : SlotNo) (v : Slot) (j : Initiator) : (s.putSlot i v).gate j = s.gate j := rfl
@[simp] theorem State.slot_putSlot_self (i : SlotNo) (v : Slot) : (s.putSlot i v).slot i = v := Vec.get_set_self _ _ _
theorem State.slot_putSlot_of_ne (i : SlotNo) (v : Slot) (j : SlotNo) (h : j ≠ i) : (s.putSlot i v).slot j = s.slot j :=
  Vec.get_set_of_ne _ _ h
theorem State.slot_putSlot (i : SlotNo) (v : Slot) (j : SlotNo) : (s.putSlot i v).slot j = if j = i then v else s.slot j :=
  Vec.get_set _ _ _ _
@[simp] theorem State.putSlot_slot (i : SlotNo) : s.putSlot i (s.slot i) = s := by
  simp [State.putSlot, State.slot]
@[simp] theorem State.returnList_putSlot (i : SlotNo) (v : Slot) (j : Initiator) : (s.putSlot i v).returnList j = s.returnList j := rfl

@[simp] theorem State.putReturnList_lanes (i : Initiator) (v : List SlotNo) : (s.putReturnList i v).lanes = s.lanes := rfl
@[simp] theorem State.putReturnList_roundRobin (i : Initiator) (v : List SlotNo) : (s.putReturnList i v).roundRobin = s.roundRobin := rfl
@[simp] theorem State.putReturnList_windows (i : Initiator) (v : List SlotNo) : (s.putReturnList i v).windows = s.windows := rfl
@[simp] theorem State.putReturnList_outside (i : Initiator) (v : List SlotNo) : (s.putReturnList i v).outside = s.outside := rfl
@[simp] theorem State.putReturnList_table (i : Initiator) (v : List SlotNo) : (s.putReturnList i v).table = s.table := rfl
@[simp] theorem State.putReturnList_gates (i : Initiator) (v : List SlotNo) : (s.putReturnList i v).gates = s.gates := rfl
@[simp] theorem State.putReturnList_slots (i : Initiator) (v : List SlotNo) : (s.putReturnList i v).slots = s.slots := rfl
@[simp] theorem State.putReturnList_returnLists (i : Initiator) (v : List SlotNo) : (s.putReturnList i v).returnLists = s.returnLists.set i v := rfl
@[simp] theorem State.putReturnList_forwardQueue (i : Initiator) (v : List SlotNo) : (s.putReturnList i v).forwardQueue = s.forwardQueue := rfl
@[simp] theorem State.putReturnList_responseTimeout (i : Initiator) (v : List SlotNo) : (s.putReturnList i v).responseTimeout = s.responseTimeout := rfl
@[simp] theorem State.putReturnList_responsePointer (i : Initiator) (v : List SlotNo) : (s.putReturnList i v).responsePointer = s.responsePointer := rfl
@[simp] theorem State.putReturnList_sweep (i : Initiator) (v : List SlotNo) : (s.putReturnList i v).sweep = s.sweep := rfl
@[simp] theorem State.putReturnList_queue (i : Initiator) (v : List SlotNo) : (s.putReturnList i v).queue = s.queue := rfl
@[simp] theorem State.putReturnList_port (i : Initiator) (v : List SlotNo) : (s.putReturnList i v).port = s.port := rfl
@[simp] theorem State.putReturnList_passedOn (i : Initiator) (v : List SlotNo) : (s.putReturnList i v).passedOn = s.passedOn := rfl
@[simp] theorem State.putReturnList_long (i : Initiator) (v : List SlotNo) : (s.putReturnList i v).long = s.long := rfl
@[simp] theorem State.putReturnList_now (i : Initiator) (v : List SlotNo) : (s.putReturnList i v).now = s.now := rfl
@[simp] theorem State.putReturnList_sentDown (i : Initiator) (v : List SlotNo) : (s.putReturnList i v).sentDown = s.sentDown := rfl
@[simp] theorem State.putReturnList_leftUp (i : Initiator) (v : List SlotNo) : (s.putReturnList i v).leftUp = s.leftUp := rfl
@[simp] theorem State.putReturnList_pending (i : Initiator) (v : List SlotNo) : (s.putReturnList i v).pending = s.pending := rfl
@[simp] theorem State.lane_putReturnList (i : Initiator) (v : List SlotNo) (j : Initiator) : (s.putReturnList i v).lane j = s.lane j := rfl
@[simp] theorem State.window_putReturnList (i : Initiator) (v : List SlotNo) (j : WindowNo) : (s.putReturnList i v).window j = s.window j := rfl
@[simp] theorem State.entry_putReturnList (i : Initiator) (v : List SlotNo) (j : EntryIndex) : (s.putReturnList i v).entry j = s.entry j := rfl
@[simp] theorem State.gate_putReturnList (i : Initiator) (v : List SlotNo) (j : Initiator) : (s.putReturnList i v).gate j = s.gate j := rfl
@[simp] theorem State.slot_putReturnList (i : Initiator) (v : List SlotNo) (j : SlotNo) : (s.putReturnList i v).slot j = s.slot j := rfl
@[simp] theorem State.returnList_putReturnList_self (i : Initiator) (v : List SlotNo) : (s.putReturnList i v).returnList i = v := Vec.get_set_self _ _ _
theorem State.returnList_putReturnList_of_ne (i : Initiator) (v : List SlotNo) (j : Initiator) (h : j ≠ i) : (s.putReturnList i v).returnList j = s.returnList j :=
  Vec.get_set_of_ne _ _ h
theorem State.returnList_putReturnList (i : Initiator) (v : List SlotNo) (j : Initiator) : (s.putReturnList i v).returnList j = if j = i then v else s.returnList j :=
  Vec.get_set _ _ _ _
@[simp] theorem State.putReturnList_returnList (i : Initiator) : s.putReturnList i (s.returnList i) = s := by
  simp [State.putReturnList, State.returnList]

@[simp] theorem State.putForward_lanes (v : List SlotNo) : (s.putForward v).lanes = s.lanes := rfl
@[simp] theorem State.putForward_roundRobin (v : List SlotNo) : (s.putForward v).roundRobin = s.roundRobin := rfl
@[simp] theorem State.putForward_windows (v : List SlotNo) : (s.putForward v).windows = s.windows := rfl
@[simp] theorem State.putForward_outside (v : List SlotNo) : (s.putForward v).outside = s.outside := rfl
@[simp] theorem State.putForward_table (v : List SlotNo) : (s.putForward v).table = s.table := rfl
@[simp] theorem State.putForward_gates (v : List SlotNo) : (s.putForward v).gates = s.gates := rfl
@[simp] theorem State.putForward_slots (v : List SlotNo) : (s.putForward v).slots = s.slots := rfl
@[simp] theorem State.putForward_returnLists (v : List SlotNo) : (s.putForward v).returnLists = s.returnLists := rfl
@[simp] theorem State.putForward_forwardQueue (v : List SlotNo) : (s.putForward v).forwardQueue = v := rfl
@[simp] theorem State.putForward_responseTimeout (v : List SlotNo) : (s.putForward v).responseTimeout = s.responseTimeout := rfl
@[simp] theorem State.putForward_responsePointer (v : List SlotNo) : (s.putForward v).responsePointer = s.responsePointer := rfl
@[simp] theorem State.putForward_sweep (v : List SlotNo) : (s.putForward v).sweep = s.sweep := rfl
@[simp] theorem State.putForward_queue (v : List SlotNo) : (s.putForward v).queue = s.queue := rfl
@[simp] theorem State.putForward_port (v : List SlotNo) : (s.putForward v).port = s.port := rfl
@[simp] theorem State.putForward_passedOn (v : List SlotNo) : (s.putForward v).passedOn = s.passedOn := rfl
@[simp] theorem State.putForward_long (v : List SlotNo) : (s.putForward v).long = s.long := rfl
@[simp] theorem State.putForward_now (v : List SlotNo) : (s.putForward v).now = s.now := rfl
@[simp] theorem State.putForward_sentDown (v : List SlotNo) : (s.putForward v).sentDown = s.sentDown := rfl
@[simp] theorem State.putForward_leftUp (v : List SlotNo) : (s.putForward v).leftUp = s.leftUp := rfl
@[simp] theorem State.putForward_pending (v : List SlotNo) : (s.putForward v).pending = s.pending := rfl
@[simp] theorem State.lane_putForward (v : List SlotNo) (j : Initiator) : (s.putForward v).lane j = s.lane j := rfl
@[simp] theorem State.window_putForward (v : List SlotNo) (j : WindowNo) : (s.putForward v).window j = s.window j := rfl
@[simp] theorem State.entry_putForward (v : List SlotNo) (j : EntryIndex) : (s.putForward v).entry j = s.entry j := rfl
@[simp] theorem State.gate_putForward (v : List SlotNo) (j : Initiator) : (s.putForward v).gate j = s.gate j := rfl
@[simp] theorem State.slot_putForward (v : List SlotNo) (j : SlotNo) : (s.putForward v).slot j = s.slot j := rfl
@[simp] theorem State.returnList_putForward (v : List SlotNo) (j : Initiator) : (s.putForward v).returnList j = s.returnList j := rfl

@[simp] theorem State.putSweep_lanes (v : Sweep) : (s.putSweep v).lanes = s.lanes := rfl
@[simp] theorem State.putSweep_roundRobin (v : Sweep) : (s.putSweep v).roundRobin = s.roundRobin := rfl
@[simp] theorem State.putSweep_windows (v : Sweep) : (s.putSweep v).windows = s.windows := rfl
@[simp] theorem State.putSweep_outside (v : Sweep) : (s.putSweep v).outside = s.outside := rfl
@[simp] theorem State.putSweep_table (v : Sweep) : (s.putSweep v).table = s.table := rfl
@[simp] theorem State.putSweep_gates (v : Sweep) : (s.putSweep v).gates = s.gates := rfl
@[simp] theorem State.putSweep_slots (v : Sweep) : (s.putSweep v).slots = s.slots := rfl
@[simp] theorem State.putSweep_returnLists (v : Sweep) : (s.putSweep v).returnLists = s.returnLists := rfl
@[simp] theorem State.putSweep_forwardQueue (v : Sweep) : (s.putSweep v).forwardQueue = s.forwardQueue := rfl
@[simp] theorem State.putSweep_responseTimeout (v : Sweep) : (s.putSweep v).responseTimeout = s.responseTimeout := rfl
@[simp] theorem State.putSweep_responsePointer (v : Sweep) : (s.putSweep v).responsePointer = s.responsePointer := rfl
@[simp] theorem State.putSweep_sweep (v : Sweep) : (s.putSweep v).sweep = v := rfl
@[simp] theorem State.putSweep_queue (v : Sweep) : (s.putSweep v).queue = s.queue := rfl
@[simp] theorem State.putSweep_port (v : Sweep) : (s.putSweep v).port = s.port := rfl
@[simp] theorem State.putSweep_passedOn (v : Sweep) : (s.putSweep v).passedOn = s.passedOn := rfl
@[simp] theorem State.putSweep_long (v : Sweep) : (s.putSweep v).long = s.long := rfl
@[simp] theorem State.putSweep_now (v : Sweep) : (s.putSweep v).now = s.now := rfl
@[simp] theorem State.putSweep_sentDown (v : Sweep) : (s.putSweep v).sentDown = s.sentDown := rfl
@[simp] theorem State.putSweep_leftUp (v : Sweep) : (s.putSweep v).leftUp = s.leftUp := rfl
@[simp] theorem State.putSweep_pending (v : Sweep) : (s.putSweep v).pending = s.pending := rfl
@[simp] theorem State.lane_putSweep (v : Sweep) (j : Initiator) : (s.putSweep v).lane j = s.lane j := rfl
@[simp] theorem State.window_putSweep (v : Sweep) (j : WindowNo) : (s.putSweep v).window j = s.window j := rfl
@[simp] theorem State.entry_putSweep (v : Sweep) (j : EntryIndex) : (s.putSweep v).entry j = s.entry j := rfl
@[simp] theorem State.gate_putSweep (v : Sweep) (j : Initiator) : (s.putSweep v).gate j = s.gate j := rfl
@[simp] theorem State.slot_putSweep (v : Sweep) (j : SlotNo) : (s.putSweep v).slot j = s.slot j := rfl
@[simp] theorem State.returnList_putSweep (v : Sweep) (j : Initiator) : (s.putSweep v).returnList j = s.returnList j := rfl

@[simp] theorem State.putQueue_lanes (v : EventQueue) : (s.putQueue v).lanes = s.lanes := rfl
@[simp] theorem State.putQueue_roundRobin (v : EventQueue) : (s.putQueue v).roundRobin = s.roundRobin := rfl
@[simp] theorem State.putQueue_windows (v : EventQueue) : (s.putQueue v).windows = s.windows := rfl
@[simp] theorem State.putQueue_outside (v : EventQueue) : (s.putQueue v).outside = s.outside := rfl
@[simp] theorem State.putQueue_table (v : EventQueue) : (s.putQueue v).table = s.table := rfl
@[simp] theorem State.putQueue_gates (v : EventQueue) : (s.putQueue v).gates = s.gates := rfl
@[simp] theorem State.putQueue_slots (v : EventQueue) : (s.putQueue v).slots = s.slots := rfl
@[simp] theorem State.putQueue_returnLists (v : EventQueue) : (s.putQueue v).returnLists = s.returnLists := rfl
@[simp] theorem State.putQueue_forwardQueue (v : EventQueue) : (s.putQueue v).forwardQueue = s.forwardQueue := rfl
@[simp] theorem State.putQueue_responseTimeout (v : EventQueue) : (s.putQueue v).responseTimeout = s.responseTimeout := rfl
@[simp] theorem State.putQueue_responsePointer (v : EventQueue) : (s.putQueue v).responsePointer = s.responsePointer := rfl
@[simp] theorem State.putQueue_sweep (v : EventQueue) : (s.putQueue v).sweep = s.sweep := rfl
@[simp] theorem State.putQueue_queue (v : EventQueue) : (s.putQueue v).queue = v := rfl
@[simp] theorem State.putQueue_port (v : EventQueue) : (s.putQueue v).port = s.port := rfl
@[simp] theorem State.putQueue_passedOn (v : EventQueue) : (s.putQueue v).passedOn = s.passedOn := rfl
@[simp] theorem State.putQueue_long (v : EventQueue) : (s.putQueue v).long = s.long := rfl
@[simp] theorem State.putQueue_now (v : EventQueue) : (s.putQueue v).now = s.now := rfl
@[simp] theorem State.putQueue_sentDown (v : EventQueue) : (s.putQueue v).sentDown = s.sentDown := rfl
@[simp] theorem State.putQueue_leftUp (v : EventQueue) : (s.putQueue v).leftUp = s.leftUp := rfl
@[simp] theorem State.putQueue_pending (v : EventQueue) : (s.putQueue v).pending = s.pending := rfl
@[simp] theorem State.lane_putQueue (v : EventQueue) (j : Initiator) : (s.putQueue v).lane j = s.lane j := rfl
@[simp] theorem State.window_putQueue (v : EventQueue) (j : WindowNo) : (s.putQueue v).window j = s.window j := rfl
@[simp] theorem State.entry_putQueue (v : EventQueue) (j : EntryIndex) : (s.putQueue v).entry j = s.entry j := rfl
@[simp] theorem State.gate_putQueue (v : EventQueue) (j : Initiator) : (s.putQueue v).gate j = s.gate j := rfl
@[simp] theorem State.slot_putQueue (v : EventQueue) (j : SlotNo) : (s.putQueue v).slot j = s.slot j := rfl
@[simp] theorem State.returnList_putQueue (v : EventQueue) (j : Initiator) : (s.putQueue v).returnList j = s.returnList j := rfl

@[simp] theorem State.putPort_lanes (v : Port) : (s.putPort v).lanes = s.lanes := rfl
@[simp] theorem State.putPort_roundRobin (v : Port) : (s.putPort v).roundRobin = s.roundRobin := rfl
@[simp] theorem State.putPort_windows (v : Port) : (s.putPort v).windows = s.windows := rfl
@[simp] theorem State.putPort_outside (v : Port) : (s.putPort v).outside = s.outside := rfl
@[simp] theorem State.putPort_table (v : Port) : (s.putPort v).table = s.table := rfl
@[simp] theorem State.putPort_gates (v : Port) : (s.putPort v).gates = s.gates := rfl
@[simp] theorem State.putPort_slots (v : Port) : (s.putPort v).slots = s.slots := rfl
@[simp] theorem State.putPort_returnLists (v : Port) : (s.putPort v).returnLists = s.returnLists := rfl
@[simp] theorem State.putPort_forwardQueue (v : Port) : (s.putPort v).forwardQueue = s.forwardQueue := rfl
@[simp] theorem State.putPort_responseTimeout (v : Port) : (s.putPort v).responseTimeout = s.responseTimeout := rfl
@[simp] theorem State.putPort_responsePointer (v : Port) : (s.putPort v).responsePointer = s.responsePointer := rfl
@[simp] theorem State.putPort_sweep (v : Port) : (s.putPort v).sweep = s.sweep := rfl
@[simp] theorem State.putPort_queue (v : Port) : (s.putPort v).queue = s.queue := rfl
@[simp] theorem State.putPort_port (v : Port) : (s.putPort v).port = v := rfl
@[simp] theorem State.putPort_passedOn (v : Port) : (s.putPort v).passedOn = s.passedOn := rfl
@[simp] theorem State.putPort_long (v : Port) : (s.putPort v).long = s.long := rfl
@[simp] theorem State.putPort_now (v : Port) : (s.putPort v).now = s.now := rfl
@[simp] theorem State.putPort_sentDown (v : Port) : (s.putPort v).sentDown = s.sentDown := rfl
@[simp] theorem State.putPort_leftUp (v : Port) : (s.putPort v).leftUp = s.leftUp := rfl
@[simp] theorem State.putPort_pending (v : Port) : (s.putPort v).pending = s.pending := rfl
@[simp] theorem State.lane_putPort (v : Port) (j : Initiator) : (s.putPort v).lane j = s.lane j := rfl
@[simp] theorem State.window_putPort (v : Port) (j : WindowNo) : (s.putPort v).window j = s.window j := rfl
@[simp] theorem State.entry_putPort (v : Port) (j : EntryIndex) : (s.putPort v).entry j = s.entry j := rfl
@[simp] theorem State.gate_putPort (v : Port) (j : Initiator) : (s.putPort v).gate j = s.gate j := rfl
@[simp] theorem State.slot_putPort (v : Port) (j : SlotNo) : (s.putPort v).slot j = s.slot j := rfl
@[simp] theorem State.returnList_putPort (v : Port) (j : Initiator) : (s.putPort v).returnList j = s.returnList j := rfl

@[simp] theorem State.putLong_lanes (v : LongOp) : (s.putLong v).lanes = s.lanes := rfl
@[simp] theorem State.putLong_roundRobin (v : LongOp) : (s.putLong v).roundRobin = s.roundRobin := rfl
@[simp] theorem State.putLong_windows (v : LongOp) : (s.putLong v).windows = s.windows := rfl
@[simp] theorem State.putLong_outside (v : LongOp) : (s.putLong v).outside = s.outside := rfl
@[simp] theorem State.putLong_table (v : LongOp) : (s.putLong v).table = s.table := rfl
@[simp] theorem State.putLong_gates (v : LongOp) : (s.putLong v).gates = s.gates := rfl
@[simp] theorem State.putLong_slots (v : LongOp) : (s.putLong v).slots = s.slots := rfl
@[simp] theorem State.putLong_returnLists (v : LongOp) : (s.putLong v).returnLists = s.returnLists := rfl
@[simp] theorem State.putLong_forwardQueue (v : LongOp) : (s.putLong v).forwardQueue = s.forwardQueue := rfl
@[simp] theorem State.putLong_responseTimeout (v : LongOp) : (s.putLong v).responseTimeout = s.responseTimeout := rfl
@[simp] theorem State.putLong_responsePointer (v : LongOp) : (s.putLong v).responsePointer = s.responsePointer := rfl
@[simp] theorem State.putLong_sweep (v : LongOp) : (s.putLong v).sweep = s.sweep := rfl
@[simp] theorem State.putLong_queue (v : LongOp) : (s.putLong v).queue = s.queue := rfl
@[simp] theorem State.putLong_port (v : LongOp) : (s.putLong v).port = s.port := rfl
@[simp] theorem State.putLong_passedOn (v : LongOp) : (s.putLong v).passedOn = s.passedOn := rfl
@[simp] theorem State.putLong_long (v : LongOp) : (s.putLong v).long = v := rfl
@[simp] theorem State.putLong_now (v : LongOp) : (s.putLong v).now = s.now := rfl
@[simp] theorem State.putLong_sentDown (v : LongOp) : (s.putLong v).sentDown = s.sentDown := rfl
@[simp] theorem State.putLong_leftUp (v : LongOp) : (s.putLong v).leftUp = s.leftUp := rfl
@[simp] theorem State.putLong_pending (v : LongOp) : (s.putLong v).pending = s.pending := rfl
@[simp] theorem State.lane_putLong (v : LongOp) (j : Initiator) : (s.putLong v).lane j = s.lane j := rfl
@[simp] theorem State.window_putLong (v : LongOp) (j : WindowNo) : (s.putLong v).window j = s.window j := rfl
@[simp] theorem State.entry_putLong (v : LongOp) (j : EntryIndex) : (s.putLong v).entry j = s.entry j := rfl
@[simp] theorem State.gate_putLong (v : LongOp) (j : Initiator) : (s.putLong v).gate j = s.gate j := rfl
@[simp] theorem State.slot_putLong (v : LongOp) (j : SlotNo) : (s.putLong v).slot j = s.slot j := rfl
@[simp] theorem State.returnList_putLong (v : LongOp) (j : Initiator) : (s.putLong v).returnList j = s.returnList j := rfl

@[simp] theorem State.putPassedOn_lanes (v : List PassedOn) : (s.putPassedOn v).lanes = s.lanes := rfl
@[simp] theorem State.putPassedOn_roundRobin (v : List PassedOn) : (s.putPassedOn v).roundRobin = s.roundRobin := rfl
@[simp] theorem State.putPassedOn_windows (v : List PassedOn) : (s.putPassedOn v).windows = s.windows := rfl
@[simp] theorem State.putPassedOn_outside (v : List PassedOn) : (s.putPassedOn v).outside = s.outside := rfl
@[simp] theorem State.putPassedOn_table (v : List PassedOn) : (s.putPassedOn v).table = s.table := rfl
@[simp] theorem State.putPassedOn_gates (v : List PassedOn) : (s.putPassedOn v).gates = s.gates := rfl
@[simp] theorem State.putPassedOn_slots (v : List PassedOn) : (s.putPassedOn v).slots = s.slots := rfl
@[simp] theorem State.putPassedOn_returnLists (v : List PassedOn) : (s.putPassedOn v).returnLists = s.returnLists := rfl
@[simp] theorem State.putPassedOn_forwardQueue (v : List PassedOn) : (s.putPassedOn v).forwardQueue = s.forwardQueue := rfl
@[simp] theorem State.putPassedOn_responseTimeout (v : List PassedOn) : (s.putPassedOn v).responseTimeout = s.responseTimeout := rfl
@[simp] theorem State.putPassedOn_responsePointer (v : List PassedOn) : (s.putPassedOn v).responsePointer = s.responsePointer := rfl
@[simp] theorem State.putPassedOn_sweep (v : List PassedOn) : (s.putPassedOn v).sweep = s.sweep := rfl
@[simp] theorem State.putPassedOn_queue (v : List PassedOn) : (s.putPassedOn v).queue = s.queue := rfl
@[simp] theorem State.putPassedOn_port (v : List PassedOn) : (s.putPassedOn v).port = s.port := rfl
@[simp] theorem State.putPassedOn_passedOn (v : List PassedOn) : (s.putPassedOn v).passedOn = v := rfl
@[simp] theorem State.putPassedOn_long (v : List PassedOn) : (s.putPassedOn v).long = s.long := rfl
@[simp] theorem State.putPassedOn_now (v : List PassedOn) : (s.putPassedOn v).now = s.now := rfl
@[simp] theorem State.putPassedOn_sentDown (v : List PassedOn) : (s.putPassedOn v).sentDown = s.sentDown := rfl
@[simp] theorem State.putPassedOn_leftUp (v : List PassedOn) : (s.putPassedOn v).leftUp = s.leftUp := rfl
@[simp] theorem State.putPassedOn_pending (v : List PassedOn) : (s.putPassedOn v).pending = s.pending := rfl
@[simp] theorem State.lane_putPassedOn (v : List PassedOn) (j : Initiator) : (s.putPassedOn v).lane j = s.lane j := rfl
@[simp] theorem State.window_putPassedOn (v : List PassedOn) (j : WindowNo) : (s.putPassedOn v).window j = s.window j := rfl
@[simp] theorem State.entry_putPassedOn (v : List PassedOn) (j : EntryIndex) : (s.putPassedOn v).entry j = s.entry j := rfl
@[simp] theorem State.gate_putPassedOn (v : List PassedOn) (j : Initiator) : (s.putPassedOn v).gate j = s.gate j := rfl
@[simp] theorem State.slot_putPassedOn (v : List PassedOn) (j : SlotNo) : (s.putPassedOn v).slot j = s.slot j := rfl
@[simp] theorem State.returnList_putPassedOn (v : List PassedOn) (j : Initiator) : (s.putPassedOn v).returnList j = s.returnList j := rfl

@[simp] theorem State.putNow_lanes (v : Nat) : (s.putNow v).lanes = s.lanes := rfl
@[simp] theorem State.putNow_roundRobin (v : Nat) : (s.putNow v).roundRobin = s.roundRobin := rfl
@[simp] theorem State.putNow_windows (v : Nat) : (s.putNow v).windows = s.windows := rfl
@[simp] theorem State.putNow_outside (v : Nat) : (s.putNow v).outside = s.outside := rfl
@[simp] theorem State.putNow_table (v : Nat) : (s.putNow v).table = s.table := rfl
@[simp] theorem State.putNow_gates (v : Nat) : (s.putNow v).gates = s.gates := rfl
@[simp] theorem State.putNow_slots (v : Nat) : (s.putNow v).slots = s.slots := rfl
@[simp] theorem State.putNow_returnLists (v : Nat) : (s.putNow v).returnLists = s.returnLists := rfl
@[simp] theorem State.putNow_forwardQueue (v : Nat) : (s.putNow v).forwardQueue = s.forwardQueue := rfl
@[simp] theorem State.putNow_responseTimeout (v : Nat) : (s.putNow v).responseTimeout = s.responseTimeout := rfl
@[simp] theorem State.putNow_responsePointer (v : Nat) : (s.putNow v).responsePointer = s.responsePointer := rfl
@[simp] theorem State.putNow_sweep (v : Nat) : (s.putNow v).sweep = s.sweep := rfl
@[simp] theorem State.putNow_queue (v : Nat) : (s.putNow v).queue = s.queue := rfl
@[simp] theorem State.putNow_port (v : Nat) : (s.putNow v).port = s.port := rfl
@[simp] theorem State.putNow_passedOn (v : Nat) : (s.putNow v).passedOn = s.passedOn := rfl
@[simp] theorem State.putNow_long (v : Nat) : (s.putNow v).long = s.long := rfl
@[simp] theorem State.putNow_now (v : Nat) : (s.putNow v).now = v := rfl
@[simp] theorem State.putNow_sentDown (v : Nat) : (s.putNow v).sentDown = s.sentDown := rfl
@[simp] theorem State.putNow_leftUp (v : Nat) : (s.putNow v).leftUp = s.leftUp := rfl
@[simp] theorem State.putNow_pending (v : Nat) : (s.putNow v).pending = s.pending := rfl
@[simp] theorem State.lane_putNow (v : Nat) (j : Initiator) : (s.putNow v).lane j = s.lane j := rfl
@[simp] theorem State.window_putNow (v : Nat) (j : WindowNo) : (s.putNow v).window j = s.window j := rfl
@[simp] theorem State.entry_putNow (v : Nat) (j : EntryIndex) : (s.putNow v).entry j = s.entry j := rfl
@[simp] theorem State.gate_putNow (v : Nat) (j : Initiator) : (s.putNow v).gate j = s.gate j := rfl
@[simp] theorem State.slot_putNow (v : Nat) (j : SlotNo) : (s.putNow v).slot j = s.slot j := rfl
@[simp] theorem State.returnList_putNow (v : Nat) (j : Initiator) : (s.putNow v).returnList j = s.returnList j := rfl

@[simp] theorem State.putRoundRobin_lanes (v : Fin 16) : (s.putRoundRobin v).lanes = s.lanes := rfl
@[simp] theorem State.putRoundRobin_roundRobin (v : Fin 16) : (s.putRoundRobin v).roundRobin = v := rfl
@[simp] theorem State.putRoundRobin_windows (v : Fin 16) : (s.putRoundRobin v).windows = s.windows := rfl
@[simp] theorem State.putRoundRobin_outside (v : Fin 16) : (s.putRoundRobin v).outside = s.outside := rfl
@[simp] theorem State.putRoundRobin_table (v : Fin 16) : (s.putRoundRobin v).table = s.table := rfl
@[simp] theorem State.putRoundRobin_gates (v : Fin 16) : (s.putRoundRobin v).gates = s.gates := rfl
@[simp] theorem State.putRoundRobin_slots (v : Fin 16) : (s.putRoundRobin v).slots = s.slots := rfl
@[simp] theorem State.putRoundRobin_returnLists (v : Fin 16) : (s.putRoundRobin v).returnLists = s.returnLists := rfl
@[simp] theorem State.putRoundRobin_forwardQueue (v : Fin 16) : (s.putRoundRobin v).forwardQueue = s.forwardQueue := rfl
@[simp] theorem State.putRoundRobin_responseTimeout (v : Fin 16) : (s.putRoundRobin v).responseTimeout = s.responseTimeout := rfl
@[simp] theorem State.putRoundRobin_responsePointer (v : Fin 16) : (s.putRoundRobin v).responsePointer = s.responsePointer := rfl
@[simp] theorem State.putRoundRobin_sweep (v : Fin 16) : (s.putRoundRobin v).sweep = s.sweep := rfl
@[simp] theorem State.putRoundRobin_queue (v : Fin 16) : (s.putRoundRobin v).queue = s.queue := rfl
@[simp] theorem State.putRoundRobin_port (v : Fin 16) : (s.putRoundRobin v).port = s.port := rfl
@[simp] theorem State.putRoundRobin_passedOn (v : Fin 16) : (s.putRoundRobin v).passedOn = s.passedOn := rfl
@[simp] theorem State.putRoundRobin_long (v : Fin 16) : (s.putRoundRobin v).long = s.long := rfl
@[simp] theorem State.putRoundRobin_now (v : Fin 16) : (s.putRoundRobin v).now = s.now := rfl
@[simp] theorem State.putRoundRobin_sentDown (v : Fin 16) : (s.putRoundRobin v).sentDown = s.sentDown := rfl
@[simp] theorem State.putRoundRobin_leftUp (v : Fin 16) : (s.putRoundRobin v).leftUp = s.leftUp := rfl
@[simp] theorem State.putRoundRobin_pending (v : Fin 16) : (s.putRoundRobin v).pending = s.pending := rfl
@[simp] theorem State.lane_putRoundRobin (v : Fin 16) (j : Initiator) : (s.putRoundRobin v).lane j = s.lane j := rfl
@[simp] theorem State.window_putRoundRobin (v : Fin 16) (j : WindowNo) : (s.putRoundRobin v).window j = s.window j := rfl
@[simp] theorem State.entry_putRoundRobin (v : Fin 16) (j : EntryIndex) : (s.putRoundRobin v).entry j = s.entry j := rfl
@[simp] theorem State.gate_putRoundRobin (v : Fin 16) (j : Initiator) : (s.putRoundRobin v).gate j = s.gate j := rfl
@[simp] theorem State.slot_putRoundRobin (v : Fin 16) (j : SlotNo) : (s.putRoundRobin v).slot j = s.slot j := rfl
@[simp] theorem State.returnList_putRoundRobin (v : Fin 16) (j : Initiator) : (s.putRoundRobin v).returnList j = s.returnList j := rfl

@[simp] theorem State.putResponsePointer_lanes (v : Fin 16) : (s.putResponsePointer v).lanes = s.lanes := rfl
@[simp] theorem State.putResponsePointer_roundRobin (v : Fin 16) : (s.putResponsePointer v).roundRobin = s.roundRobin := rfl
@[simp] theorem State.putResponsePointer_windows (v : Fin 16) : (s.putResponsePointer v).windows = s.windows := rfl
@[simp] theorem State.putResponsePointer_outside (v : Fin 16) : (s.putResponsePointer v).outside = s.outside := rfl
@[simp] theorem State.putResponsePointer_table (v : Fin 16) : (s.putResponsePointer v).table = s.table := rfl
@[simp] theorem State.putResponsePointer_gates (v : Fin 16) : (s.putResponsePointer v).gates = s.gates := rfl
@[simp] theorem State.putResponsePointer_slots (v : Fin 16) : (s.putResponsePointer v).slots = s.slots := rfl
@[simp] theorem State.putResponsePointer_returnLists (v : Fin 16) : (s.putResponsePointer v).returnLists = s.returnLists := rfl
@[simp] theorem State.putResponsePointer_forwardQueue (v : Fin 16) : (s.putResponsePointer v).forwardQueue = s.forwardQueue := rfl
@[simp] theorem State.putResponsePointer_responseTimeout (v : Fin 16) : (s.putResponsePointer v).responseTimeout = s.responseTimeout := rfl
@[simp] theorem State.putResponsePointer_responsePointer (v : Fin 16) : (s.putResponsePointer v).responsePointer = v := rfl
@[simp] theorem State.putResponsePointer_sweep (v : Fin 16) : (s.putResponsePointer v).sweep = s.sweep := rfl
@[simp] theorem State.putResponsePointer_queue (v : Fin 16) : (s.putResponsePointer v).queue = s.queue := rfl
@[simp] theorem State.putResponsePointer_port (v : Fin 16) : (s.putResponsePointer v).port = s.port := rfl
@[simp] theorem State.putResponsePointer_passedOn (v : Fin 16) : (s.putResponsePointer v).passedOn = s.passedOn := rfl
@[simp] theorem State.putResponsePointer_long (v : Fin 16) : (s.putResponsePointer v).long = s.long := rfl
@[simp] theorem State.putResponsePointer_now (v : Fin 16) : (s.putResponsePointer v).now = s.now := rfl
@[simp] theorem State.putResponsePointer_sentDown (v : Fin 16) : (s.putResponsePointer v).sentDown = s.sentDown := rfl
@[simp] theorem State.putResponsePointer_leftUp (v : Fin 16) : (s.putResponsePointer v).leftUp = s.leftUp := rfl
@[simp] theorem State.putResponsePointer_pending (v : Fin 16) : (s.putResponsePointer v).pending = s.pending := rfl
@[simp] theorem State.lane_putResponsePointer (v : Fin 16) (j : Initiator) : (s.putResponsePointer v).lane j = s.lane j := rfl
@[simp] theorem State.window_putResponsePointer (v : Fin 16) (j : WindowNo) : (s.putResponsePointer v).window j = s.window j := rfl
@[simp] theorem State.entry_putResponsePointer (v : Fin 16) (j : EntryIndex) : (s.putResponsePointer v).entry j = s.entry j := rfl
@[simp] theorem State.gate_putResponsePointer (v : Fin 16) (j : Initiator) : (s.putResponsePointer v).gate j = s.gate j := rfl
@[simp] theorem State.slot_putResponsePointer (v : Fin 16) (j : SlotNo) : (s.putResponsePointer v).slot j = s.slot j := rfl
@[simp] theorem State.returnList_putResponsePointer (v : Fin 16) (j : Initiator) : (s.putResponsePointer v).returnList j = s.returnList j := rfl

@[simp] theorem State.lane_reset (i : Initiator) : State.reset.lane i = none := Vec.get_replicate _ _
@[simp] theorem State.window_reset (i : WindowNo) : State.reset.window i = .cold := Vec.get_replicate _ _
@[simp] theorem State.entry_reset (i : EntryIndex) : State.reset.entry i = .free := Vec.get_replicate _ _
@[simp] theorem State.gate_reset (i : Initiator) : State.reset.gate i = .cold := Vec.get_replicate _ _
@[simp] theorem State.slot_reset (i : SlotNo) : State.reset.slot i = .free := Vec.get_replicate _ _
@[simp] theorem State.returnList_reset (i : Initiator) : State.reset.returnList i = [] := Vec.get_replicate _ _

end Sys2Proof.Machine
end

