-- ==== Sys2Proof/Laws/Ops.lean ====
section
/-! SUPPORT. What each shared operation can do: the fields it leaves unchanged, and the records it changes. -/

namespace Sys2Proof.Machine

variable (s : State)

/-- `raise` changes at most queue. -/
@[simp] theorem State.raise_fields (e : Event) :
    (s.raise e).lanes = s.lanes
    ∧ (s.raise e).roundRobin = s.roundRobin
    ∧ (s.raise e).windows = s.windows
    ∧ (s.raise e).outside = s.outside
    ∧ (s.raise e).table = s.table
    ∧ (s.raise e).gates = s.gates
    ∧ (s.raise e).slots = s.slots
    ∧ (s.raise e).returnLists = s.returnLists
    ∧ (s.raise e).forwardQueue = s.forwardQueue
    ∧ (s.raise e).responseTimeout = s.responseTimeout
    ∧ (s.raise e).responsePointer = s.responsePointer
    ∧ (s.raise e).sweep = s.sweep
    ∧ (s.raise e).port = s.port
    ∧ (s.raise e).passedOn = s.passedOn
    ∧ (s.raise e).long = s.long
    ∧ (s.raise e).now = s.now
    ∧ (s.raise e).sentDown = s.sentDown
    ∧ (s.raise e).leftUp = s.leftUp
    ∧ (s.raise e).pending = s.pending := by
  unfold State.raise
  split <;> simp

@[simp] theorem State.lane_raise (e : Event) (x : Initiator) : (s.raise e).lane x = s.lane x := by
  simp [State.lane]
@[simp] theorem State.window_raise (e : Event) (x : WindowNo) : (s.raise e).window x = s.window x := by
  simp [State.window]
@[simp] theorem State.entry_raise (e : Event) (x : EntryIndex) : (s.raise e).entry x = s.entry x := by
  simp [State.entry]
@[simp] theorem State.gate_raise (e : Event) (x : Initiator) : (s.raise e).gate x = s.gate x := by
  simp [State.gate]
@[simp] theorem State.slot_raise (e : Event) (x : SlotNo) : (s.raise e).slot x = s.slot x := by
  simp [State.slot]
@[simp] theorem State.returnList_raise (e : Event) (x : Initiator) : (s.raise e).returnList x = s.returnList x := by
  simp [State.returnList]

/-- `raiseAll` changes at most queue. -/
@[simp] theorem State.raiseAll_fields (es : List Event) :
    (s.raiseAll es).lanes = s.lanes
    ∧ (s.raiseAll es).roundRobin = s.roundRobin
    ∧ (s.raiseAll es).windows = s.windows
    ∧ (s.raiseAll es).outside = s.outside
    ∧ (s.raiseAll es).table = s.table
    ∧ (s.raiseAll es).gates = s.gates
    ∧ (s.raiseAll es).slots = s.slots
    ∧ (s.raiseAll es).returnLists = s.returnLists
    ∧ (s.raiseAll es).forwardQueue = s.forwardQueue
    ∧ (s.raiseAll es).responseTimeout = s.responseTimeout
    ∧ (s.raiseAll es).responsePointer = s.responsePointer
    ∧ (s.raiseAll es).sweep = s.sweep
    ∧ (s.raiseAll es).port = s.port
    ∧ (s.raiseAll es).passedOn = s.passedOn
    ∧ (s.raiseAll es).long = s.long
    ∧ (s.raiseAll es).now = s.now
    ∧ (s.raiseAll es).sentDown = s.sentDown
    ∧ (s.raiseAll es).leftUp = s.leftUp
    ∧ (s.raiseAll es).pending = s.pending := by
  induction es generalizing s with
  | nil => simp [State.raiseAll]
  | cons e es ih => simp [State.raiseAll, ih]

@[simp] theorem State.lane_raiseAll (es : List Event) (x : Initiator) : (s.raiseAll es).lane x = s.lane x := by
  simp [State.lane]
@[simp] theorem State.window_raiseAll (es : List Event) (x : WindowNo) : (s.raiseAll es).window x = s.window x := by
  simp [State.window]
@[simp] theorem State.entry_raiseAll (es : List Event) (x : EntryIndex) : (s.raiseAll es).entry x = s.entry x := by
  simp [State.entry]
@[simp] theorem State.gate_raiseAll (es : List Event) (x : Initiator) : (s.raiseAll es).gate x = s.gate x := by
  simp [State.gate]
@[simp] theorem State.slot_raiseAll (es : List Event) (x : SlotNo) : (s.raiseAll es).slot x = s.slot x := by
  simp [State.slot]
@[simp] theorem State.returnList_raiseAll (es : List Event) (x : Initiator) : (s.raiseAll es).returnList x = s.returnList x := by
  simp [State.returnList]

/-- `unlinkSlot` changes at most slots. -/
@[simp] theorem State.unlinkSlot_fields (k : SlotNo) :
    (s.unlinkSlot k).lanes = s.lanes
    ∧ (s.unlinkSlot k).roundRobin = s.roundRobin
    ∧ (s.unlinkSlot k).windows = s.windows
    ∧ (s.unlinkSlot k).outside = s.outside
    ∧ (s.unlinkSlot k).table = s.table
    ∧ (s.unlinkSlot k).gates = s.gates
    ∧ (s.unlinkSlot k).returnLists = s.returnLists
    ∧ (s.unlinkSlot k).forwardQueue = s.forwardQueue
    ∧ (s.unlinkSlot k).responseTimeout = s.responseTimeout
    ∧ (s.unlinkSlot k).responsePointer = s.responsePointer
    ∧ (s.unlinkSlot k).sweep = s.sweep
    ∧ (s.unlinkSlot k).queue = s.queue
    ∧ (s.unlinkSlot k).port = s.port
    ∧ (s.unlinkSlot k).passedOn = s.passedOn
    ∧ (s.unlinkSlot k).long = s.long
    ∧ (s.unlinkSlot k).now = s.now
    ∧ (s.unlinkSlot k).sentDown = s.sentDown
    ∧ (s.unlinkSlot k).leftUp = s.leftUp
    ∧ (s.unlinkSlot k).pending = s.pending := by
  simp [State.unlinkSlot]

@[simp] theorem State.lane_unlinkSlot (k : SlotNo) (x : Initiator) : (s.unlinkSlot k).lane x = s.lane x := by
  simp [State.lane]
@[simp] theorem State.window_unlinkSlot (k : SlotNo) (x : WindowNo) : (s.unlinkSlot k).window x = s.window x := by
  simp [State.window]
@[simp] theorem State.entry_unlinkSlot (k : SlotNo) (x : EntryIndex) : (s.unlinkSlot k).entry x = s.entry x := by
  simp [State.entry]
@[simp] theorem State.gate_unlinkSlot (k : SlotNo) (x : Initiator) : (s.unlinkSlot k).gate x = s.gate x := by
  simp [State.gate]
@[simp] theorem State.returnList_unlinkSlot (k : SlotNo) (x : Initiator) : (s.unlinkSlot k).returnList x = s.returnList x := by
  simp [State.returnList]

/-- `freeEntry` changes at most table, slots. -/
@[simp] theorem State.freeEntry_fields (e : EntryIndex) :
    (s.freeEntry e).lanes = s.lanes
    ∧ (s.freeEntry e).roundRobin = s.roundRobin
    ∧ (s.freeEntry e).windows = s.windows
    ∧ (s.freeEntry e).outside = s.outside
    ∧ (s.freeEntry e).gates = s.gates
    ∧ (s.freeEntry e).returnLists = s.returnLists
    ∧ (s.freeEntry e).forwardQueue = s.forwardQueue
    ∧ (s.freeEntry e).responseTimeout = s.responseTimeout
    ∧ (s.freeEntry e).responsePointer = s.responsePointer
    ∧ (s.freeEntry e).sweep = s.sweep
    ∧ (s.freeEntry e).queue = s.queue
    ∧ (s.freeEntry e).port = s.port
    ∧ (s.freeEntry e).passedOn = s.passedOn
    ∧ (s.freeEntry e).long = s.long
    ∧ (s.freeEntry e).now = s.now
    ∧ (s.freeEntry e).sentDown = s.sentDown
    ∧ (s.freeEntry e).leftUp = s.leftUp
    ∧ (s.freeEntry e).pending = s.pending := by
  unfold State.freeEntry
  split <;> simp

@[simp] theorem State.lane_freeEntry (e : EntryIndex) (x : Initiator) : (s.freeEntry e).lane x = s.lane x := by
  simp [State.lane]
@[simp] theorem State.window_freeEntry (e : EntryIndex) (x : WindowNo) : (s.freeEntry e).window x = s.window x := by
  simp [State.window]
@[simp] theorem State.gate_freeEntry (e : EntryIndex) (x : Initiator) : (s.freeEntry e).gate x = s.gate x := by
  simp [State.gate]
@[simp] theorem State.returnList_freeEntry (e : EntryIndex) (x : Initiator) : (s.freeEntry e).returnList x = s.returnList x := by
  simp [State.returnList]

/-- `confirmClaim` changes at most table. -/
@[simp] theorem State.confirmClaim_fields (l : Option EntryIndex) :
    (s.confirmClaim l).lanes = s.lanes
    ∧ (s.confirmClaim l).roundRobin = s.roundRobin
    ∧ (s.confirmClaim l).windows = s.windows
    ∧ (s.confirmClaim l).outside = s.outside
    ∧ (s.confirmClaim l).gates = s.gates
    ∧ (s.confirmClaim l).slots = s.slots
    ∧ (s.confirmClaim l).returnLists = s.returnLists
    ∧ (s.confirmClaim l).forwardQueue = s.forwardQueue
    ∧ (s.confirmClaim l).responseTimeout = s.responseTimeout
    ∧ (s.confirmClaim l).responsePointer = s.responsePointer
    ∧ (s.confirmClaim l).sweep = s.sweep
    ∧ (s.confirmClaim l).queue = s.queue
    ∧ (s.confirmClaim l).port = s.port
    ∧ (s.confirmClaim l).passedOn = s.passedOn
    ∧ (s.confirmClaim l).long = s.long
    ∧ (s.confirmClaim l).now = s.now
    ∧ (s.confirmClaim l).sentDown = s.sentDown
    ∧ (s.confirmClaim l).leftUp = s.leftUp
    ∧ (s.confirmClaim l).pending = s.pending := by
  unfold State.confirmClaim
  split
  · simp
  · split <;> simp

@[simp] theorem State.lane_confirmClaim (l : Option EntryIndex) (x : Initiator) : (s.confirmClaim l).lane x = s.lane x := by
  simp [State.lane]
@[simp] theorem State.window_confirmClaim (l : Option EntryIndex) (x : WindowNo) : (s.confirmClaim l).window x = s.window x := by
  simp [State.window]
@[simp] theorem State.gate_confirmClaim (l : Option EntryIndex) (x : Initiator) : (s.confirmClaim l).gate x = s.gate x := by
  simp [State.gate]
@[simp] theorem State.slot_confirmClaim (l : Option EntryIndex) (x : SlotNo) : (s.confirmClaim l).slot x = s.slot x := by
  simp [State.slot]
@[simp] theorem State.returnList_confirmClaim (l : Option EntryIndex) (x : Initiator) : (s.confirmClaim l).returnList x = s.returnList x := by
  simp [State.returnList]

/-- `voidClaim` changes at most table, slots, queue. -/
@[simp] theorem State.voidClaim_fields (a : SlotAccess) (l : Option EntryIndex) :
    (s.voidClaim a l).lanes = s.lanes
    ∧ (s.voidClaim a l).roundRobin = s.roundRobin
    ∧ (s.voidClaim a l).windows = s.windows
    ∧ (s.voidClaim a l).outside = s.outside
    ∧ (s.voidClaim a l).gates = s.gates
    ∧ (s.voidClaim a l).returnLists = s.returnLists
    ∧ (s.voidClaim a l).forwardQueue = s.forwardQueue
    ∧ (s.voidClaim a l).responseTimeout = s.responseTimeout
    ∧ (s.voidClaim a l).responsePointer = s.responsePointer
    ∧ (s.voidClaim a l).sweep = s.sweep
    ∧ (s.voidClaim a l).port = s.port
    ∧ (s.voidClaim a l).passedOn = s.passedOn
    ∧ (s.voidClaim a l).long = s.long
    ∧ (s.voidClaim a l).now = s.now
    ∧ (s.voidClaim a l).sentDown = s.sentDown
    ∧ (s.voidClaim a l).leftUp = s.leftUp
    ∧ (s.voidClaim a l).pending = s.pending := by
  unfold State.voidClaim
  split
  · simp
  · split <;> simp

@[simp] theorem State.lane_voidClaim (a : SlotAccess) (l : Option EntryIndex) (x : Initiator) : (s.voidClaim a l).lane x = s.lane x := by
  simp [State.lane]
@[simp] theorem State.window_voidClaim (a : SlotAccess) (l : Option EntryIndex) (x : WindowNo) : (s.voidClaim a l).window x = s.window x := by
  simp [State.window]
@[simp] theorem State.gate_voidClaim (a : SlotAccess) (l : Option EntryIndex) (x : Initiator) : (s.voidClaim a l).gate x = s.gate x := by
  simp [State.gate]
@[simp] theorem State.returnList_voidClaim (a : SlotAccess) (l : Option EntryIndex) (x : Initiator) : (s.voidClaim a l).returnList x = s.returnList x := by
  simp [State.returnList]

/-- `timeOut` changes at most table, slots, queue. -/
@[simp] theorem State.timeOut_fields (k : SlotNo) :
    (s.timeOut k).lanes = s.lanes
    ∧ (s.timeOut k).roundRobin = s.roundRobin
    ∧ (s.timeOut k).windows = s.windows
    ∧ (s.timeOut k).outside = s.outside
    ∧ (s.timeOut k).gates = s.gates
    ∧ (s.timeOut k).returnLists = s.returnLists
    ∧ (s.timeOut k).forwardQueue = s.forwardQueue
    ∧ (s.timeOut k).responseTimeout = s.responseTimeout
    ∧ (s.timeOut k).responsePointer = s.responsePointer
    ∧ (s.timeOut k).sweep = s.sweep
    ∧ (s.timeOut k).port = s.port
    ∧ (s.timeOut k).passedOn = s.passedOn
    ∧ (s.timeOut k).long = s.long
    ∧ (s.timeOut k).now = s.now
    ∧ (s.timeOut k).sentDown = s.sentDown
    ∧ (s.timeOut k).leftUp = s.leftUp
    ∧ (s.timeOut k).pending = s.pending := by
  unfold State.timeOut
  split <;> simp

@[simp] theorem State.lane_timeOut (k : SlotNo) (x : Initiator) : (s.timeOut k).lane x = s.lane x := by
  simp [State.lane]
@[simp] theorem State.window_timeOut (k : SlotNo) (x : WindowNo) : (s.timeOut k).window x = s.window x := by
  simp [State.window]
@[simp] theorem State.gate_timeOut (k : SlotNo) (x : Initiator) : (s.timeOut k).gate x = s.gate x := by
  simp [State.gate]
@[simp] theorem State.returnList_timeOut (k : SlotNo) (x : Initiator) : (s.timeOut k).returnList x = s.returnList x := by
  simp [State.returnList]

/-- `endLong` changes at most long, queue. -/
@[simp] theorem State.endLong_fields (c : DoneCommand) (r : Completion) :
    (s.endLong c r).lanes = s.lanes
    ∧ (s.endLong c r).roundRobin = s.roundRobin
    ∧ (s.endLong c r).windows = s.windows
    ∧ (s.endLong c r).outside = s.outside
    ∧ (s.endLong c r).table = s.table
    ∧ (s.endLong c r).gates = s.gates
    ∧ (s.endLong c r).slots = s.slots
    ∧ (s.endLong c r).returnLists = s.returnLists
    ∧ (s.endLong c r).forwardQueue = s.forwardQueue
    ∧ (s.endLong c r).responseTimeout = s.responseTimeout
    ∧ (s.endLong c r).responsePointer = s.responsePointer
    ∧ (s.endLong c r).sweep = s.sweep
    ∧ (s.endLong c r).port = s.port
    ∧ (s.endLong c r).passedOn = s.passedOn
    ∧ (s.endLong c r).now = s.now
    ∧ (s.endLong c r).sentDown = s.sentDown
    ∧ (s.endLong c r).leftUp = s.leftUp
    ∧ (s.endLong c r).pending = s.pending := by
  simp [State.endLong]

@[simp] theorem State.lane_endLong (c : DoneCommand) (r : Completion) (x : Initiator) : (s.endLong c r).lane x = s.lane x := by
  simp [State.lane]
@[simp] theorem State.window_endLong (c : DoneCommand) (r : Completion) (x : WindowNo) : (s.endLong c r).window x = s.window x := by
  simp [State.window]
@[simp] theorem State.entry_endLong (c : DoneCommand) (r : Completion) (x : EntryIndex) : (s.endLong c r).entry x = s.entry x := by
  simp [State.entry]
@[simp] theorem State.gate_endLong (c : DoneCommand) (r : Completion) (x : Initiator) : (s.endLong c r).gate x = s.gate x := by
  simp [State.gate]
@[simp] theorem State.slot_endLong (c : DoneCommand) (r : Completion) (x : SlotNo) : (s.endLong c r).slot x = s.slot x := by
  simp [State.slot]
@[simp] theorem State.returnList_endLong (c : DoneCommand) (r : Completion) (x : Initiator) : (s.endLong c r).returnList x = s.returnList x := by
  simp [State.returnList]

/-- `sweepEnded` changes at most long, queue. -/
@[simp] theorem State.sweepEnded_fields (n : Nat) :
    (s.sweepEnded n).lanes = s.lanes
    ∧ (s.sweepEnded n).roundRobin = s.roundRobin
    ∧ (s.sweepEnded n).windows = s.windows
    ∧ (s.sweepEnded n).outside = s.outside
    ∧ (s.sweepEnded n).table = s.table
    ∧ (s.sweepEnded n).gates = s.gates
    ∧ (s.sweepEnded n).slots = s.slots
    ∧ (s.sweepEnded n).returnLists = s.returnLists
    ∧ (s.sweepEnded n).forwardQueue = s.forwardQueue
    ∧ (s.sweepEnded n).responseTimeout = s.responseTimeout
    ∧ (s.sweepEnded n).responsePointer = s.responsePointer
    ∧ (s.sweepEnded n).sweep = s.sweep
    ∧ (s.sweepEnded n).port = s.port
    ∧ (s.sweepEnded n).passedOn = s.passedOn
    ∧ (s.sweepEnded n).now = s.now
    ∧ (s.sweepEnded n).sentDown = s.sentDown
    ∧ (s.sweepEnded n).leftUp = s.leftUp
    ∧ (s.sweepEnded n).pending = s.pending := by
  unfold State.sweepEnded
  split <;> simp

@[simp] theorem State.lane_sweepEnded (n : Nat) (x : Initiator) : (s.sweepEnded n).lane x = s.lane x := by
  simp [State.lane]
@[simp] theorem State.window_sweepEnded (n : Nat) (x : WindowNo) : (s.sweepEnded n).window x = s.window x := by
  simp [State.window]
@[simp] theorem State.entry_sweepEnded (n : Nat) (x : EntryIndex) : (s.sweepEnded n).entry x = s.entry x := by
  simp [State.entry]
@[simp] theorem State.gate_sweepEnded (n : Nat) (x : Initiator) : (s.sweepEnded n).gate x = s.gate x := by
  simp [State.gate]
@[simp] theorem State.slot_sweepEnded (n : Nat) (x : SlotNo) : (s.sweepEnded n).slot x = s.slot x := by
  simp [State.slot]
@[simp] theorem State.returnList_sweepEnded (n : Nat) (x : Initiator) : (s.sweepEnded n).returnList x = s.returnList x := by
  simp [State.returnList]

/-- `advanceWalk` changes at most long, queue. -/
@[simp] theorem State.advanceWalk_fields (c : DoneCommand) :
    (s.advanceWalk c).lanes = s.lanes
    ∧ (s.advanceWalk c).roundRobin = s.roundRobin
    ∧ (s.advanceWalk c).windows = s.windows
    ∧ (s.advanceWalk c).outside = s.outside
    ∧ (s.advanceWalk c).table = s.table
    ∧ (s.advanceWalk c).gates = s.gates
    ∧ (s.advanceWalk c).slots = s.slots
    ∧ (s.advanceWalk c).returnLists = s.returnLists
    ∧ (s.advanceWalk c).forwardQueue = s.forwardQueue
    ∧ (s.advanceWalk c).responseTimeout = s.responseTimeout
    ∧ (s.advanceWalk c).responsePointer = s.responsePointer
    ∧ (s.advanceWalk c).sweep = s.sweep
    ∧ (s.advanceWalk c).port = s.port
    ∧ (s.advanceWalk c).passedOn = s.passedOn
    ∧ (s.advanceWalk c).now = s.now
    ∧ (s.advanceWalk c).sentDown = s.sentDown
    ∧ (s.advanceWalk c).leftUp = s.leftUp
    ∧ (s.advanceWalk c).pending = s.pending := by
  unfold State.advanceWalk
  dsimp only
  split <;> simp

@[simp] theorem State.lane_advanceWalk (c : DoneCommand) (x : Initiator) : (s.advanceWalk c).lane x = s.lane x := by
  simp [State.lane]
@[simp] theorem State.window_advanceWalk (c : DoneCommand) (x : WindowNo) : (s.advanceWalk c).window x = s.window x := by
  simp [State.window]
@[simp] theorem State.entry_advanceWalk (c : DoneCommand) (x : EntryIndex) : (s.advanceWalk c).entry x = s.entry x := by
  simp [State.entry]
@[simp] theorem State.gate_advanceWalk (c : DoneCommand) (x : Initiator) : (s.advanceWalk c).gate x = s.gate x := by
  simp [State.gate]
@[simp] theorem State.slot_advanceWalk (c : DoneCommand) (x : SlotNo) : (s.advanceWalk c).slot x = s.slot x := by
  simp [State.slot]
@[simp] theorem State.returnList_advanceWalk (c : DoneCommand) (x : Initiator) : (s.advanceWalk c).returnList x = s.returnList x := by
  simp [State.returnList]

/-- `fixReply` changes at most passedOn, port. -/
@[simp] theorem State.fixReply_fields (r : Reply) (c : Option Byte) :
    (s.fixReply r c).lanes = s.lanes
    ∧ (s.fixReply r c).roundRobin = s.roundRobin
    ∧ (s.fixReply r c).windows = s.windows
    ∧ (s.fixReply r c).outside = s.outside
    ∧ (s.fixReply r c).table = s.table
    ∧ (s.fixReply r c).gates = s.gates
    ∧ (s.fixReply r c).slots = s.slots
    ∧ (s.fixReply r c).returnLists = s.returnLists
    ∧ (s.fixReply r c).forwardQueue = s.forwardQueue
    ∧ (s.fixReply r c).responseTimeout = s.responseTimeout
    ∧ (s.fixReply r c).responsePointer = s.responsePointer
    ∧ (s.fixReply r c).sweep = s.sweep
    ∧ (s.fixReply r c).queue = s.queue
    ∧ (s.fixReply r c).long = s.long
    ∧ (s.fixReply r c).now = s.now
    ∧ (s.fixReply r c).sentDown = s.sentDown
    ∧ (s.fixReply r c).leftUp = s.leftUp
    ∧ (s.fixReply r c).pending = s.pending := by
  simp [State.fixReply]

@[simp] theorem State.lane_fixReply (r : Reply) (c : Option Byte) (x : Initiator) : (s.fixReply r c).lane x = s.lane x := by
  simp [State.lane]
@[simp] theorem State.window_fixReply (r : Reply) (c : Option Byte) (x : WindowNo) : (s.fixReply r c).window x = s.window x := by
  simp [State.window]
@[simp] theorem State.entry_fixReply (r : Reply) (c : Option Byte) (x : EntryIndex) : (s.fixReply r c).entry x = s.entry x := by
  simp [State.entry]
@[simp] theorem State.gate_fixReply (r : Reply) (c : Option Byte) (x : Initiator) : (s.fixReply r c).gate x = s.gate x := by
  simp [State.gate]
@[simp] theorem State.slot_fixReply (r : Reply) (c : Option Byte) (x : SlotNo) : (s.fixReply r c).slot x = s.slot x := by
  simp [State.slot]
@[simp] theorem State.returnList_fixReply (r : Reply) (c : Option Byte) (x : Initiator) : (s.fixReply r c).returnList x = s.returnList x := by
  simp [State.returnList]

end Sys2Proof.Machine
end

