-- ==== Sys2Proof/Laws/Events.lean ====
section
/-! SUPPORT. How events settle (R143 to R146): merged, appended or counted as lost, and nothing but the queue changes. -/

namespace Sys2Proof.Machine

variable (s : State)

/-- Settling an event changes the queue alone. -/
theorem State.raise_eq (e : Event) : s.raise e = s.putQueue (s.raise e).queue := by
  unfold State.raise
  split <;> rfl

/-- Settling several events changes the queue alone. -/
theorem State.raiseAll_eq (es : List Event) : s.raiseAll es = s.putQueue (s.raiseAll es).queue := by
  induction es generalizing s with
  | nil => rfl
  | cons e es ih =>
    rw [State.raiseAll, ih (s.raise e), State.raise_eq]
    rfl

/-- An event that coalesces merges into the newest record. -/
theorem State.raise_of_coalesces {e : Event} (h : s.coalesces e = true) :
    s.raise e = s.putQueue s.queue.mergeNewest := by simp [State.raise, h]

/-- An event that does not coalesce is appended or lost. -/
theorem State.raise_of_not_coalesces {e : Event} (h : s.coalesces e = false) :
    s.raise e = s.putQueue (s.queue.append e) := by simp [State.raise, h]

/-- With room in the queue, an event that does not coalesce becomes the newest record. -/
theorem EventQueue.append_of_room {q : EventQueue} (h : q.records.length < 64) (e : Event) :
    q.append e = { q with records := q.records ++ [⟨q.nextSequence, e, 1, false⟩], nextSequence := q.nextSequence + 1 } := by
  simp [EventQueue.append, Config.queueCapacity, h]

/-- With no room in the queue, an event that does not coalesce is counted as lost. -/
theorem EventQueue.append_of_full {q : EventQueue} (h : ¬ q.records.length < 64) (e : Event) :
    q.append e = { q with lostTally := min 65535 (q.lostTally + 1) } := by
  simp [EventQueue.append, Config.queueCapacity, Config.lostMax, h]

/-- A queue that shows the same queue and the same windows settles an event the same way. -/
theorem State.raise_queue_congr {t : State} (hq : t.queue = s.queue) (hw : t.windows = s.windows) (e : Event) :
    (t.raise e).queue = (s.raise e).queue := by
  have hc : t.coalesces e = s.coalesces e := by
    have hg : ∀ w a b, t.sameGranule w a b = s.sameGranule w a b := by
      intro w a b
      have hwin : t.window = s.window := by funext w; simp [State.window, hw]
      simp only [State.sameGranule, hwin]
    simp only [State.coalesces, hq]
    split
    · rename_i r hr
      congr 1
      unfold State.sameIncident
      split <;> simp_all
    · rfl
  unfold State.raise
  rw [hc]
  split <;> simp [hq]

/-- The same for several events. -/
theorem State.raiseAll_queue_congr {t : State} (hq : t.queue = s.queue) (hw : t.windows = s.windows) (es : List Event) :
    (t.raiseAll es).queue = (s.raiseAll es).queue := by
  induction es generalizing s t with
  | nil => exact hq
  | cons e es ih =>
    rw [State.raiseAll, State.raiseAll]
    exact ih (s.raise e) (State.raise_queue_congr s hq hw e) (by simp [hw])

/-- Settling an event in a state with the queue and the windows of `s`. -/
theorem State.raise_eq_of {t : State} (hq : t.queue = s.queue) (hw : t.windows = s.windows) (e : Event) :
    t.raise e = t.putQueue (s.raise e).queue := by
  rw [State.raise_eq, State.raise_queue_congr s hq hw]

/-- Settling several events in a state with the queue and the windows of `s`. -/
theorem State.raiseAll_eq_of {t : State} (hq : t.queue = s.queue) (hw : t.windows = s.windows) (es : List Event) :
    t.raiseAll es = t.putQueue (s.raiseAll es).queue := by
  rw [State.raiseAll_eq, State.raiseAll_queue_congr s hq hw]

end Sys2Proof.Machine
end

