-- ==== Sys2Proof/Laws/Table.lean ====
section
/-! SUPPORT. The table's operations and the tracker's timeout, once each: which entries and slots they change, and to what;
what a lookup and a placement find. -/

namespace Sys2Proof.Machine

variable (s : State)

/-! ### Lookup and placement -/

/-- R2, R4: the ways of a key are exactly the four indexes of its bucket. -/
theorem Key.mem_ways {k : Key} {e : EntryIndex} : e ∈ k.ways ↔ e.val / 4 = k.bucket.toNat := by
  have hb := k.bucket.isLt
  simp only [Key.ways, List.mem_map, List.mem_finRange, true_and]
  constructor
  · rintro ⟨v, rfl⟩
    have := v.isLt
    simp only [wayIndex]
    omega
  · intro h
    exact ⟨⟨e.val % 4, Nat.mod_lt _ (by decide)⟩, Fin.ext (by simp only [wayIndex]; omega)⟩

/-- R3: a lookup yields an entry that matches, in a way of the key's bucket. -/
theorem State.lookup_some {k : Key} {e : EntryIndex} (h : s.lookup k = some e) :
    (s.entry e).key? = some k ∧ e ∈ k.ways := by
  refine ⟨?_, List.mem_of_find?_eq_some h⟩
  have := List.find?_some h
  exact beq_iff_eq.mp this

/-- R3: a lookup that yields no entry has found none of the bucket's ways to match. -/
theorem State.lookup_none {k : Key} (h : s.lookup k = none) {e : EntryIndex} (he : e ∈ k.ways) :
    (s.entry e).key? ≠ some k := by
  have := List.find?_eq_none.mp h e he
  simpa using this

/-- R4: a placement takes a FREE way of the key's bucket. -/
theorem State.freeWay_some {k : Key} {e : EntryIndex} (h : s.freeWay k = some e) : s.entry e = .free ∧ e ∈ k.ways := by
  refine ⟨?_, List.mem_of_find?_eq_some h⟩
  have := List.find?_some h
  revert this
  cases s.entry e <;> simp [Entry.isFree]

/-- R4: no placement is found only when no way of the bucket is FREE. -/
theorem State.freeWay_none {k : Key} (h : s.freeWay k = none) {e : EntryIndex} (he : e ∈ k.ways) : s.entry e ≠ .free := by
  have := List.find?_eq_none.mp h e he
  intro hf
  simp [hf, Entry.isFree] at this

/-- R108: the free slot found is FREE. -/
theorem State.freeSlot_some {k : SlotNo} (h : s.freeSlot = some k) : s.slot k = .free := by
  have := List.find?_some h
  revert this
  cases s.slot k <;> simp [Slot.occupied]

/-! ### Freeing, confirming and voiding -/

theorem State.entry_freeEntry (e j : EntryIndex) : (s.freeEntry e).entry j = if j = e then .free else s.entry j := by
  unfold State.freeEntry
  split <;> simp [State.entry_putEntry]

theorem State.slot_freeEntry (e : EntryIndex) (k : SlotNo) :
    (s.freeEntry e).slot k = if (s.entry e).claimSlot? = some k then (s.slot k).unlink else s.slot k := by
  unfold State.freeEntry
  split
  · rename_i j h
    by_cases hk : k = j
    · subst hk; simp [State.unlinkSlot, h]
    · have : ¬ j = k := fun x => hk x.symm
      simp [State.unlinkSlot, h, State.slot_putSlot, hk, this]
  · rename_i h
    simp [h]

/-- Freeing changes the table and at most one slot's claim link. -/
theorem State.freeEntry_eq (e : EntryIndex) :
    s.freeEntry e = { s with table := (s.freeEntry e).table, slots := (s.freeEntry e).slots } := by
  unfold State.freeEntry
  split <;> rfl

theorem State.entry_confirmClaim (l : Option EntryIndex) (j : EntryIndex) :
    (s.confirmClaim l).entry j =
      if l = some j then (match s.entry j with
        | .claimed k c => .claimed k { c with claimSlot := none }
        | x => x)
      else s.entry j := by
  unfold State.confirmClaim
  cases l with
  | none => simp
  | some e =>
    by_cases h : j = e
    · subst h
      cases hx : s.entry j <;> simp [hx]
    · have : ¬ e = j := fun x => h x.symm
      simp only [Option.some.injEq, this, if_false]
      split <;> simp [State.entry_putEntry, h]

/-- Confirming changes the table alone. -/
theorem State.confirmClaim_eq (l : Option EntryIndex) :
    s.confirmClaim l = { s with table := (s.confirmClaim l).table } := by
  unfold State.confirmClaim
  split
  · rfl
  · split <;> rfl

theorem State.entry_voidClaim (a : SlotAccess) (l : Option EntryIndex) (j : EntryIndex) :
    (s.voidClaim a l).entry j = if l = some j then .free else s.entry j := by
  unfold State.voidClaim
  cases l with
  | none => simp
  | some e =>
    by_cases h : j = e
    · subst h
      cases hx : s.entry j <;> simp [Entry.key?, State.entry_freeEntry, hx]
    · have : ¬ e = j := fun x => h x.symm
      simp only [Option.some.injEq, this, if_false]
      split <;> simp [State.entry_freeEntry, h]

theorem State.slot_voidClaim (a : SlotAccess) (l : Option EntryIndex) (k : SlotNo) :
    (s.voidClaim a l).slot k =
      if l.any (fun e => (s.entry e).claimSlot? == some k) then (s.slot k).unlink else s.slot k := by
  unfold State.voidClaim
  cases l with
  | none => simp
  | some e =>
    cases hx : s.entry e <;> simp [Entry.key?, State.slot_freeEntry, hx, Entry.claimSlot?]

/-- Voiding changes the table, the queue and at most one slot's claim link. -/
theorem State.voidClaim_eq (a : SlotAccess) (l : Option EntryIndex) :
    s.voidClaim a l = { s with table := (s.voidClaim a l).table, slots := (s.voidClaim a l).slots,
                               queue := (s.voidClaim a l).queue } := by
  unfold State.voidClaim
  split
  · rfl
  · split
    · rw [State.raise_eq, State.freeEntry_eq]
      rfl
    · rfl

/-! ### Timeouts -/

/-- A timeout's effect on an OUTSTANDING slot, spelled out. -/
theorem State.timeOut_outstanding {k : SlotNo} {a : SlotAccess} {l : Option EntryIndex} {d : Option Nat}
    (h : s.slot k = .outstanding a l d) :
    s.timeOut k = ((s.putSlot k (.ready a ⟨[], []⟩ errorResponse true)).raise
      (.responseTimeout a.initiator a.addr k)).voidClaim a l := by
  simp [State.timeOut, h]

/-- A slot that is not OUTSTANDING does not time out. -/
theorem State.timeOut_of_not_outstanding {k : SlotNo} (h : ∀ a l d, s.slot k ≠ .outstanding a l d) : s.timeOut k = s := by
  unfold State.timeOut
  split
  · rename_i a l d hk
    exact absurd hk (h a l d)
  · rfl

/-- Unlinking changes nothing but a claim link. -/
theorem Slot.unlink_eq_outstanding {x : Slot} {a : SlotAccess} {l : Option EntryIndex} {d : Option Nat}
    (h : x.unlink = .outstanding a l d) : ∃ l', x = .outstanding a l' d := by
  cases x with
  | outstanding a' l' d' => simp [Slot.unlink] at h; exact ⟨l', by rw [h.1, h.2.2]⟩
  | _ => simp [Slot.unlink] at h

/-- A slot that is OUTSTANDING after a timeout was OUTSTANDING before it, with the same deadline. -/
theorem State.outstanding_of_timeOut {k j : SlotNo} {a : SlotAccess} {l : Option EntryIndex} {d : Option Nat}
    (h : (s.timeOut k).slot j = .outstanding a l d) : ∃ l', s.slot j = .outstanding a l' d := by
  unfold State.timeOut at h
  split at h
  · rw [State.slot_voidClaim, State.slot_raise, State.slot_putSlot] at h
    by_cases hj : j = k
    · simp [hj, Slot.unlink] at h
    · rw [if_neg hj] at h
      split at h
      · exact Slot.unlink_eq_outstanding h
      · exact ⟨l, h⟩
  · exact ⟨l, h⟩

/-! ### The searches -/

/-- R51, R121: a search from `p` upward, wrapping, finds the first number that satisfies `f`. -/
theorem find_rotation (p i : Fin 16) (f : Fin 16 → Bool) :
    (rotation p).find? f = some i ↔ f i = true ∧ ∀ j : Fin 16, (j - p).val < (i - p).val → f j = false := by
  rw [List.find?_eq_some_iff_getElem]
  constructor
  · rintro ⟨h1, n, hn, he, hb⟩
    refine ⟨h1, fun j hj => ?_⟩
    have hn' : n < 16 := by simpa [rotation] using hn
    have hi : p + ⟨n, hn'⟩ = i := by simpa [rotation] using he
    have hin : (i - p).val = n := by rw [← hi]; simp
    have := hb (j - p).val (by omega)
    simpa [rotation] using this
  · rintro ⟨h1, h2⟩
    refine ⟨h1, (i - p).val, by simp [rotation], by simp [rotation], ?_⟩
    intro m hm
    have h16 : m < 16 := by
      have := (i - p).isLt
      omega
    have := h2 (p + ⟨m, h16⟩) (by simpa using hm)
    simpa [rotation] using this

/-- A search from `p` finds nothing only where nothing satisfies `f`. -/
theorem find_rotation_none (p : Fin 16) (f : Fin 16 → Bool) :
    (rotation p).find? f = none ↔ ∀ i, f i = false := by
  rw [List.find?_eq_none]
  constructor
  · intro h i
    have := h i (by simp only [rotation, List.mem_map, List.mem_finRange, true_and]; exact ⟨i - p, by simp⟩)
    simpa using this
  · intro h i _
    simp [h i]

/-- A search of all the numbers upward from 0 finds the first that satisfies `f`. -/
theorem find_finRange {n : Nat} (i : Fin n) (f : Fin n → Bool) :
    (List.finRange n).find? f = some i ↔ f i = true ∧ ∀ j, j < i → f j = false := by
  rw [List.find?_eq_some_iff_getElem]
  constructor
  · rintro ⟨h1, m, hm, he, hb⟩
    refine ⟨h1, fun j hj => ?_⟩
    have hi : i.val = m := by rw [← he]; simp
    have := hb j.val (by have := Fin.lt_def.mp hj; omega)
    simpa using this
  · rintro ⟨h1, h2⟩
    refine ⟨h1, i.val, by simp, by simp, ?_⟩
    intro m hm
    have := h2 ⟨m, lt_trans hm i.isLt⟩ (Fin.lt_def.mpr hm)
    simpa using this

end Sys2Proof.Machine
end

