-- ==== Sys2Proof/Laws/Admission.lean ====
section
/-! SUPPORT. The laws of an admission: which lane is chosen, what the outcome changes whatever the verdict, and what it
makes of the slot, the table, the gate and the queue for each verdict. -/

namespace Sys2Proof.Machine

variable (s : State)

/-! ### The choice -/

/-- The admission of the chosen lane's request. -/
theorem execAdmission_of_admits {i : Initiator} {r : Request} {k : SlotNo} (h : s.Admits i r k) :
    execAdmission s = .next (s.admitRequest r k) := by
  obtain ⟨h1, h2, h3, h4⟩ := h
  subst h3
  simp [execAdmission, h1, h2, h4]

/-- The form check and its plain reading agree. -/
theorem malformed_eq_false {r : Request} : malformed r = false ↔ wellFormedRequest r := by
  simp only [malformed, wellFormedRequest, Bool.or_eq_false_iff, decide_eq_false_iff_not]
  omega

/-! ### The gate -/

/-- The counter step, its event and its new value. -/
theorem counterStep_eq (i : Initiator) (c : GateCounter) (n : BitVec 32) :
    counterStep i c n = (n + 1, highEvents i [(c, n)]) := by
  simp only [counterStep, highEvents, List.filter_cons, List.filter_nil, beq_iff_eq]
  split <;> simp

theorem highEvents_cons (i : Initiator) (p : GateCounter × BitVec 32) (l : List (GateCounter × BitVec 32)) :
    highEvents i (p :: l) = highEvents i [p] ++ highEvents i l := by
  simp only [highEvents, List.filter_cons, List.filter_nil]
  split <;> simp

/-- The counters of a final REFUSE. -/
theorem Gate.countStep_refused (g : Gate) (i : Initiator) :
    g.countStep i true false = ({ g with admitted := g.admitted + 1, refused := g.refused + 1 },
      highEvents i [(.admitted, g.admitted), (.refused, g.refused)]) := by
  simp [Gate.countStep, counterStep_eq, highEvents_cons i (.admitted, g.admitted) [_]]

/-- The counters of an admission that places a claim. -/
theorem Gate.countStep_claimed (g : Gate) (i : Initiator) :
    g.countStep i false true = ({ g with admitted := g.admitted + 1, claims := g.claims + 1 },
      highEvents i [(.admitted, g.admitted), (.claims, g.claims)]) := by
  simp [Gate.countStep, counterStep_eq, highEvents_cons i (.admitted, g.admitted) [_]]

/-- The counters of every other admission. -/
theorem Gate.countStep_plain (g : Gate) (i : Initiator) :
    g.countStep i false false = ({ g with admitted := g.admitted + 1 }, highEvents i [(.admitted, g.admitted)]) := by
  simp [Gate.countStep, counterStep_eq]

/-- A pass moves no trip count. -/
@[simp] theorem Gate.tripStep_pass (g : Gate) (i : Initiator) : g.tripStep i .pass = (g, []) := by
  simp [Gate.tripStep, enforced]

/-- A refusal from a gate that is not OPEN moves no trip count. -/
theorem Gate.tripStep_of_not_opened {g : Gate} (h : g.state ≠ .opened) (i : Initiator) (v : Verdict) :
    g.tripStep i v = (g, []) := by
  have : enforced g v = false := by
    unfold enforced
    split <;> simp [h]
  simp [Gate.tripStep, this]

/-! ### The table and the slot -/

/-- The table's part of the outcome changes the table alone. -/
theorem State.tableOutcome_eq (i : Initiator) (j : Judgement) (k : SlotNo) :
    s.tableOutcome i j k = { s with table := (s.tableOutcome i j k).table } := by
  unfold State.tableOutcome
  split <;> split <;> rfl

/-- A refused access takes its slot READY, and nothing else of the part is reached. -/
theorem State.slotOutcome_refuse {j : Judgement} {reason : Reason} (h : j.verdict = .refuse reason) (r : Request)
    (k : SlotNo) :
    s.slotOutcome r j k =
      s.putSlot k (.ready (requestAccess r) (requestPayload r) (s.substituteFor j.key r) false) := by
  simp [State.slotOutcome, h]

/-- A passed access takes its slot QUEUED, at the end of the forward queue, with the table's part of the outcome. -/
theorem State.slotOutcome_pass {j : Judgement} (h : j.verdict = .pass) (r : Request) (k : SlotNo) :
    s.slotOutcome r j k = ((s.tableOutcome r.initiator j k).putForward (s.forwardQueue ++ [k])).putSlot k
      (.queued (requestAccess r) (requestPayload r) j.claimed) := by
  simp [State.slotOutcome, h]

/-- The slot's part of the outcome changes the table, the slots and the forward queue alone. -/
theorem State.slotOutcome_eq (r : Request) (j : Judgement) (k : SlotNo) :
    s.slotOutcome r j k = { s with table := (s.slotOutcome r j k).table, slots := (s.slotOutcome r j k).slots,
                                   forwardQueue := (s.slotOutcome r j k).forwardQueue } := by
  unfold State.slotOutcome
  split
  · rfl
  · rw [State.tableOutcome_eq]
    rfl

/-- The outcome takes no slot but its own. -/
theorem State.slot_slotOutcome_of_ne (r : Request) (j : Judgement) {k m : SlotNo} (h : m ≠ k) :
    (s.slotOutcome r j k).slot m = s.slot m := by
  unfold State.slotOutcome
  split
  · exact State.slot_putSlot_of_ne _ _ _ _ h
  · rw [State.slot_putSlot_of_ne _ _ _ _ h, State.tableOutcome_eq]
    rfl

/-- What taking a request and settling its events leaves, over any state that differs from `s` in the table, the slots and
the forward queue alone. -/
theorem admittedTo_take {i : Initiator} {k : SlotNo} {u : State} (g : Gate) (es : List Event)
    (hu : u = { s with table := u.table, slots := u.slots, forwardQueue := u.forwardQueue })
    (hs : ∀ m, m ≠ k → u.slot m = s.slot m) :
    AdmittedTo s (((u.takeRequest i k).putGate i g).raiseAll es) i k := by
  have hg : u.gates = s.gates := by rw [hu]
  have hl : u.lanes = s.lanes := by rw [hu]
  have hr : u.returnLists = s.returnLists := by rw [hu]
  constructor
  · simp [State.takeRequest]
  · intro j hj
    simp [State.takeRequest, State.lane_putLane_of_ne _ _ _ _ hj, State.lane, hl] <;>
      simp [State.putLane, hl, Vec.get_set_of_ne _ _ hj]
  · simp [State.takeRequest]
  · simp [State.takeRequest, State.returnList, hr]
  · intro j hj
    simp [State.takeRequest, State.returnList_putReturnList_of_ne _ _ _ _ hj, State.returnList, hr] <;>
      simp [State.putReturnList, hr, Vec.get_set_of_ne _ _ hj]
  · intro m hm
    simpa [State.takeRequest] using hs m hm
  · intro j hj
    simp [State.gate_putGate_of_ne _ _ _ _ hj, State.takeRequest, State.gate, hg] <;>
      simp [State.putGate, State.takeRequest, hg, Vec.get_set_of_ne _ _ hj]
  · rw [State.raiseAll_eq]
    simp only [State.putQueue, State.putGate, State.takeRequest, State.putReturnList, State.putRoundRobin, State.putLane]
    rw [hu]

/-- Everything the outcome of a judged request does: what every admission does, with the slot, the table and the forward
queue as `slotOutcome` leaves them, the gate after the trip count and the counters, and the events in the order of R71. -/
theorem State.outcome_spec (r : Request) (j : Judgement) (k : SlotNo) :
    let tripped := j.gate.tripStep r.initiator j.verdict
    let counted := tripped.1.countStep r.initiator j.verdict.isRefuse j.claimed.isSome
    AdmittedTo s (s.outcome r j k) r.initiator k
    ∧ (s.outcome r j k).slot k = (s.slotOutcome r j k).slot k
    ∧ (s.outcome r j k).table = (s.slotOutcome r j k).table
    ∧ (s.outcome r j k).forwardQueue = (s.slotOutcome r j k).forwardQueue
    ∧ (s.outcome r j k).gate r.initiator = counted.1
    ∧ (s.outcome r j k).queue =
        (s.raiseAll (j.events ++ j.violation r ++ tripped.2 ++ counted.2)).queue := by
  intro tripped counted
  refine ⟨admittedTo_take s _ _ (State.slotOutcome_eq _ _ _ _) (fun m hm => State.slot_slotOutcome_of_ne _ _ _ hm),
    ?_, ?_, ?_, ?_, ?_⟩
  · simp [State.outcome, State.takeRequest]
  · simp [State.outcome, State.takeRequest]
  · simp [State.outcome, State.takeRequest]
  · simp [State.outcome, tripped, counted]
  · refine State.raiseAll_queue_congr s ?_ ?_ _ <;>
      · simp only [State.putGate_queue, State.putGate_windows, State.takeRequest, State.putReturnList_queue,
          State.putReturnList_windows, State.putRoundRobin_queue, State.putRoundRobin_windows, State.putLane_queue,
          State.putLane_windows]
        rw [State.slotOutcome_eq]

/-- Everything the answer to a malformed request does. -/
theorem State.answerMalformed_spec (r : Request) (k : SlotNo) :
    AdmittedTo s (s.answerMalformed r k) r.initiator k
    ∧ (s.answerMalformed r k).slot k = .ready (requestAccess r) (requestPayload r) ⟨.error, []⟩ false
    ∧ (s.answerMalformed r k).table = s.table
    ∧ (s.answerMalformed r k).forwardQueue = s.forwardQueue
    ∧ (s.answerMalformed r k).gate r.initiator =
        { s.gate r.initiator with admitted := (s.gate r.initiator).admitted + 1 }
    ∧ (s.answerMalformed r k).queue = (s.raiseAll (.malformed r.initiator r.addr r.length ::
        highEvents r.initiator [(.admitted, (s.gate r.initiator).admitted)])).queue := by
  refine ⟨admittedTo_take s _ _ rfl (fun m hm => State.slot_putSlot_of_ne _ _ _ _ hm), ?_, ?_, ?_, ?_, ?_⟩
  · simp [State.answerMalformed, State.takeRequest, errorResponse]
  · simp [State.answerMalformed, State.takeRequest]
  · simp [State.answerMalformed, State.takeRequest]
  · simp [State.answerMalformed, Gate.countStep_plain]
  · simp only [State.answerMalformed, Gate.countStep_plain]
    exact State.raiseAll_queue_congr s (by simp [State.takeRequest]) (by simp [State.takeRequest]) _

/-! ### The window and table steps -/

/-- The window step keeps the key of the address, and the table step keeps it too. -/
theorem State.windowStep_key (r : Request) (g : Gate) : (s.windowStep r g).key = s.findKey r.addr := by
  unfold State.windowStep
  split
  · rename_i h
    rw [h]
    split <;> rfl
  · rename_i key h
    rw [h]
    split <;> first | rfl | (unfold State.tableStep; split <;> rfl)

/-- The window and table steps touch no gate, raise no event, make no claim and audit nothing. -/
theorem State.windowStep_start (r : Request) (g : Gate) :
    (s.windowStep r g).gate = g ∧ (s.windowStep r g).events = [] ∧ (s.windowStep r g).claimed = none
      ∧ (s.windowStep r g).audited = none := by
  unfold State.windowStep
  split
  · split <;> simp [Judgement.start]
  · split <;> first | (unfold State.tableStep; split <;> simp [Judgement.start]; done) | simp [Judgement.start]

/-- Only a pass is granted by an entry. -/
theorem State.windowStep_granted (r : Request) (g : Gate) (h : (s.windowStep r g).verdict ≠ .pass) :
    (s.windowStep r g).granted = none := by
  revert h
  unfold State.windowStep
  split
  · split <;> simp [Judgement.start]
  · split <;> first
      | (unfold State.tableStep; split <;> simp [Judgement.start]; done)
      | simp [Judgement.start]

/-- The window and table steps refuse for no reason of the gate's own. -/
theorem State.windowStep_ne_gateShut (r : Request) (g : Gate) : (s.windowStep r g).verdict ≠ .refuse .gateShut := by
  have hg : ∀ o m st i k, grant o m st i k ≠ .refuse .gateShut := by
    intro o m st i k
    unfold grant
    split
    · simp
    · split
      · simp
      · split <;> simp
  have ht : ∀ key, (s.tableStep r key g).verdict ≠ .refuse .gateShut := by
    intro key
    unfold State.tableStep
    split
    · simp only [Judgement.start, unlistedVerdict]
      split <;> simp
    · rename_i e _
      simp only [Judgement.start, Entry.verdict]
      split <;> first | exact hg _ _ _ _ _ | simp
  unfold State.windowStep
  split
  · split <;> simp [Judgement.start]
  · split <;> first | exact ht _ | simp [Judgement.start]

/-- A write is due to claim only in a LEARN window, for a write whose key no entry matches. -/
theorem State.windowStep_claimDue {r : Request} {g : Gate} (h : (s.windowStep r g).verdict = .claimDue) :
    ∃ key, s.findKey r.addr = some key ∧ (s.window key.window).mode = .learn ∧ s.lookup key = none ∧ r.kind = .write := by
  have hg : ∀ o m st i k, grant o m st i k ≠ .claimDue := by
    intro o m st i k
    unfold grant
    split
    · simp
    · split
      · simp
      · split <;> simp
  have ht : ∀ key, (s.tableStep r key g).verdict = .claimDue →
      (s.window key.window).mode = .learn ∧ s.lookup key = none ∧ r.kind = .write := by
    intro key
    unfold State.tableStep
    split
    · rename_i hl
      simp only [Judgement.start, unlistedVerdict]
      split <;> simp_all
    · simp only [Judgement.start, Entry.verdict]
      split <;> first | exact fun h => absurd h (hg _ _ _ _ _) | simp
  revert h
  unfold State.windowStep
  split
  · split <;> simp [Judgement.start]
  · rename_i key hk
    split <;> first | exact fun h => ⟨key, hk, ht key h⟩ | simp [Judgement.start]

/-! ### The budget step -/

/-- A request that the gate does not charge, or that can no longer pass, is left as it is. -/
theorem Judgement.budgetStep_of_not_charged {j : Judgement} {r : Request} (h : j.charged r = false) :
    j.budgetStep r = (j, false) := by
  simp [Judgement.budgetStep, h]

/-- What the gate charges, for a request that can still pass. -/
theorem Judgement.charged_eq_meters {j : Judgement} {r : Request} (hp : j.gate.privileged = false)
    (hv : j.verdict = .pass ∨ j.verdict = .claimDue) : j.charged r = j.gate.meters r := by
  rcases hv with hv | hv <;> simp [Judgement.charged, Gate.meters, hp, hv, Bool.and_comm]

/-- A request that can still pass, from a gate that it does not find exhausted: the pair and the events of the charge, if
there is one, and nothing else. -/
theorem Judgement.budgetStep_of_not_exhausted {j : Judgement} {r : Request} (hp : j.gate.privileged = false)
    (hv : j.verdict = .pass ∨ j.verdict = .claimDue) (hx : ¬ j.gate.exhausted r) :
    j.budgetStep r = ({ j with gate := j.gate.paid r, events := j.events ++ j.gate.payEvents r }, false) := by
  have hc := Judgement.charged_eq_meters hp hv (r := r)
  cases hm : j.gate.meters r with
  | false => simp [Judgement.budgetStep, hc, hm, Gate.paid, Gate.payEvents]
  | true =>
    rw [hm] at hc
    by_cases h0 : j.gate.remaining = 0
    · have hn : 0 < j.gate.next := by
        have : ¬ j.gate.next = 0 := fun h => hx ⟨hm, h0, h⟩
        omega
      have hn' : j.gate.next ≠ 0 := by omega
      simp [Judgement.budgetStep, hc, Gate.reload, h0, hn, hn', Gate.charge, Gate.paid, Gate.payEvents, hm]
    · by_cases hl : r.length < j.gate.remaining
      · have h1 : ¬ j.gate.remaining - r.length = 0 := by omega
        have h2 : ¬ j.gate.remaining ≤ r.length := by omega
        simp [Judgement.budgetStep, hc, Gate.reload, h0, Gate.charge, Gate.paid, Gate.payEvents, hm, hl, h1, h2]
      · have h1 : j.gate.remaining - r.length = 0 := by omega
        have h2 : j.gate.remaining ≤ r.length := by omega
        by_cases hn : 0 < j.gate.next
        · simp [Judgement.budgetStep, hc, Gate.reload, h0, Gate.charge, Gate.paid, Gate.payEvents, hm, hl, h1, h2, hn]
        · have hn' : j.gate.next = 0 := by omega
          simp [Judgement.budgetStep, hc, Gate.reload, h0, Gate.charge, Gate.paid, Gate.payEvents, hm, hl, h1, h2, hn']

/-- A request that can still pass and finds its gate exhausted: a hold, or a refusal BUDGET. -/
theorem Judgement.budgetStep_of_exhausted {j : Judgement} {r : Request} (hp : j.gate.privileged = false)
    (hv : j.verdict = .pass ∨ j.verdict = .claimDue) (hx : j.gate.exhausted r) :
    j.budgetStep r =
      if j.gate.exhaust = .hold ∧ j.gate.state = .opened then
        ({ j with gate := { j.gate with state := .held }, events := j.events ++ [.budgetExhausted r.initiator] }, true)
      else ({ j with verdict := .refuse .budget, events := j.events ++ [.budgetExhausted r.initiator] }, false) := by
  obtain ⟨hm, h0, hn⟩ := hx
  have hc := (Judgement.charged_eq_meters hp hv (r := r)).trans hm
  simp [Judgement.budgetStep, hc, Gate.reload, h0, hn]

/-- A charge changes the budget pair alone. -/
theorem Gate.paid_eq (g : Gate) (r : Request) : g.paid r = { g with remaining := (g.paid r).remaining, next := (g.paid r).next } := by
  unfold Gate.paid
  (repeat' split) <;> rfl

/-! ### The audit step -/

/-- An access that the audit step softens has no granted entry, so it touches none. -/
theorem Judgement.granted_of_softened {j : Judgement} (h0 : j.audited = none) (h : j.auditStep.audited ≠ none) :
    j.auditStep.granted = none := by
  unfold Judgement.auditStep at *
  (repeat' split) <;> simp_all

end Sys2Proof.Machine
end

