-- ==== Sys2Proof/Laws/Arguments.lean ====
section
/-! SUPPORT. What each argument byte names, and which bytes name nothing. -/

namespace Sys2Proof.Machine

@[simp] theorem indexArg_indexByte (i : Fin 16) : indexArg (indexByte i) = some i := by
  revert i
  decide

theorem indexArg_none {b : Byte} : indexArg b = none ↔ 15 < b.toNat := by
  unfold indexArg
  split <;> simp <;> omega

@[simp] theorem choiceArg_choiceByte (b : Bool) : choiceArg (choiceByte b) = some b := by
  revert b
  decide

theorem choiceArg_none {b : Byte} : choiceArg b = none ↔ 1 < b.toNat := by
  revert b
  decide

@[simp] theorem gateStateArg_code (st : GateState) : gateStateArg st.code = some st := by
  cases st <;> rfl

theorem gateStateArg_none {b : Byte} : gateStateArg b = none ↔ 3 < b.toNat := by
  revert b
  decide

@[simp] theorem exhaustArg_exhaustByte (x : ExhaustAction) : exhaustArg (exhaustByte x) = some x := by
  cases x <;> rfl

theorem exhaustArg_none {b : Byte} : exhaustArg b = none ↔ 1 < b.toNat := by
  revert b
  decide

@[simp] theorem filterArg_filterByte (f : Option (Fin 16)) : filterArg (filterByte f) = some f := by
  revert f
  decide

theorem filterArg_none {b : Byte} : filterArg b = none ↔ 15 < b.toNat ∧ b ≠ 0xFF := by
  revert b
  decide

theorem kindSetArg_kindSetByte {ks : KindSet} (h : ks ≠ ⟨false, false, false⟩) :
    kindSetArg (kindSetByte ks) = some ks := by
  obtain ⟨_ | _, _ | _, _ | _⟩ := ks <;> first | exact absurd rfl h | rfl

theorem kindSetArg_none {b : Byte} : kindSetArg b = none ↔ b.toNat = 0 ∨ 7 < b.toNat := by
  revert b
  decide

theorem granuleArg_some {g : BitVec 24} (h : g.toNat ≤ 1048575) : granuleArg g = some g.toNat := by
  simp [granuleArg, Config.granuleMax, h]

theorem granuleArg_none {g : BitVec 24} : granuleArg g = none ↔ 1048575 < g.toNat := by
  unfold granuleArg Config.granuleMax
  split <;> simp <;> omega

theorem keyArg_some (w : WindowNo) {g : BitVec 24} (h : g.toNat ≤ 1048575) :
    keyArg (indexByte w) g = some ⟨w, g.toNat⟩ := by
  simp [keyArg, granuleArg_some h]

theorem imageKey_some {m : EntryImage} (h : m.granule.toNat ≤ 1048575) :
    imageKey m = some ⟨m.window, m.granule.toNat⟩ := by
  simp [imageKey, granuleArg_some h]

theorem imageAdmissible_iff {m : WindowImage} : imageAdmissible m = true ↔ AdmissibleImage m := by
  simp only [imageAdmissible, Bool.and_eq_true, decide_eq_true_eq]
  constructor
  · rintro ⟨⟨⟨⟨⟨⟨h1, h2⟩, h3⟩, h4⟩, h5⟩, h6⟩, h7⟩
    exact ⟨⟨h1, h2⟩, ⟨h3, h4⟩, ⟨h5, h6⟩, h7⟩
  · rintro ⟨⟨h1, h2⟩, ⟨h3, h4⟩, ⟨h5, h6⟩, h7⟩
    exact ⟨⟨⟨⟨⟨⟨h1, h2⟩, h3⟩, h4⟩, h5⟩, h6⟩, h7⟩

end Sys2Proof.Machine
end

