-- ==== Sys2Proof/Laws/Commands.lean ====
section
/-! SUPPORT. What a management command's happening does, whatever the command: it is taken and judged, refused while
RESTART runs, or not taken at all; and what fixing a reply leaves. -/

namespace Sys2Proof.Machine

variable {s u : State} {c : Command} {i : Instr} {body : State → Answer}

/-- A command that can be taken while no RESTART runs is answered by its body. -/
theorem runCommand_of_ready (h : s.canTake (.command i) = true) (hr : s.restarting = false) :
    runCommand c i body s = .next ((body s).state.fixReply ⟨(body s).status, (body s).results⟩
      (if c = .repeatReply then none else some c.code)) := by
  simp [runCommand, h, hr]

/-- A command exempt from the fence is answered by its body whether or not RESTART runs. -/
theorem runCommand_of_exempt (h : s.canTake (.command i) = true) (he : exemptFromRestart c = true) :
    runCommand c i body s = .next ((body s).state.fixReply ⟨(body s).status, (body s).results⟩
      (if c = .repeatReply then none else some c.code)) := by
  simp [runCommand, h, he]

/-- While RESTART runs, a command that is not exempt is refused and its body does nothing. -/
theorem runCommand_of_restarting (h : s.canTake (.command i) = true) (hr : s.restarting = true)
    (he : exemptFromRestart c = false) :
    runCommand c i body s = .next (s.fixReply ⟨.restarting, []⟩ (if c = .repeatReply then none else some c.code)) := by
  simp [runCommand, h, hr, he, refuse]

/-- A command that cannot be taken yet changes nothing. -/
theorem runCommand_of_not_taken (h : s.canTake (.command i) = false) : runCommand c i body s = .next s := by
  simp [runCommand, h]

/-- Everything a management command's happening can do: it is not taken, or it is taken with an answer, which is the
fence's refusal or the body's. -/
theorem runCommand_cases (c : Command) (i : Instr) (body : State → Answer) (s : State) :
    (s.canTake (.command i) = false ∧ runCommand c i body s = .next s)
    ∨ (s.canTake (.command i) = true ∧ ∃ a : Answer, (a = refuse s .restarting ∨ a = body s)
        ∧ runCommand c i body s = .next (a.state.fixReply ⟨a.status, a.results⟩
            (if c = .repeatReply then none else some c.code))) := by
  by_cases h : s.canTake (.command i) = true
  · refine .inr ⟨h, ?_⟩
    by_cases hr : (s.restarting && !exemptFromRestart c) = true
    · exact ⟨refuse s .restarting, .inl rfl, by simp [runCommand, h, hr]⟩
    · exact ⟨body s, .inr rfl, by simp [runCommand, h, hr]⟩
  · exact .inl ⟨by simpa using h, by simp [runCommand, h]⟩

/-- Fixing a reply changes the port and the frames held, and nothing else. -/
theorem State.fixReply_eq (s : State) (r : Reply) (c : Option Byte) :
    s.fixReply r c = { s with port := (s.fixReply r c).port, passedOn := (s.fixReply r c).passedOn } := rfl

/-- Everything that fixing a reply does to the frames held and to the port but the last reply, which is stored or kept. -/
theorem replied_fixReply (hp : u.port = s.port) (ho : u.passedOn = s.passedOn) (reply : Reply) (store : Option Byte) :
    Replied s (u.fixReply reply store) reply where
  taken := by simp [State.fixReply, ho]
  made := rfl
  ready := by
    intro owed bit hr hd
    simp [State.fixReply, hp, ho, hr, hd, Receiver.deliver]
  waits := by
    intro h
    simp only [State.fixReply, hp, ho]
    rcases h with h | h
    · unfold Receiver.deliver
      split
      · rename_i heq _
        rw [heq] at h
        simp [Receiver.awaiting] at h
      · rfl
    · unfold Receiver.deliver
      split
      · contradiction
      · rfl
  lines := by simp [State.fixReply, hp]

/-- Fixing a reply that is stored answers the oldest frame held. -/
theorem answered_fixReply (hp : u.port = s.port) (ho : u.passedOn = s.passedOn) (code : Byte) (st : Status)
    (rs : List Byte) : Answered s (u.fixReply ⟨st, rs⟩ (some code)) code st rs :=
  ⟨replied_fixReply hp ho _ _, rfl⟩

/-- The answer of a command's body, made and stored. -/
theorem answered_body {a : Answer} {st : Status} {rs : List Byte} (hc : c ≠ .repeatReply)
    (hp : a.state.port = s.port) (ho : a.state.passedOn = s.passedOn) (hs : a.status = st) (hr : a.results = rs) :
    Answered s (a.state.fixReply ⟨a.status, a.results⟩ (if c = .repeatReply then none else some c.code)) c.code st
      rs := by
  subst hs hr
  rw [if_neg hc]
  exact answered_fixReply hp ho _ _ _

end Sys2Proof.Machine
end

