-- ==== Sys2Proof/Laws/Bodies.lean ====
section
/-! SUPPORT. The conditions the command bodies test, in words of the state; and that no body touches the port, gives results
with a refusal, or changes anything with one. -/

namespace Sys2Proof.Machine

/-- R43: the overlap test finds an enabled window other than `w` that shares an address with it. -/
theorem State.overlaps_iff (s : State) (w : WindowNo) : s.overlaps w = true ↔
    ∃ v a, v ≠ w ∧ (s.window v).enabled = true ∧ (s.window v).covers a = true ∧ (s.window w).covers a = true := by
  simp only [State.overlaps, List.any_eq_true, List.mem_finRange, true_and, Bool.and_eq_true, Bool.not_eq_true', beq_eq_false_iff_ne, Window.meets, decide_eq_true_eq, Window.covers]
  constructor
  · rintro ⟨v, ⟨h1, h2⟩, h3⟩
    by_cases hle : (s.window w).base.toNat ≤ (s.window v).base.toNat
    · exact ⟨v, (s.window v).base, h1, h2, by omega, by omega⟩
    · exact ⟨v, (s.window w).base, h1, h2, by omega, by omega⟩
  · rintro ⟨v, a, h1, h2, h3, h4⟩
    exact ⟨v, ⟨h1, h2⟩, by omega⟩

/-- R41: a window holds entries when some entry has a key of that window. -/
theorem State.entryCount_pos (s : State) (w : WindowNo) : 0 < s.entryCount w ↔ ∃ e k, (s.entry e).key? = some k ∧ k.window = w := by
  rw [Nat.pos_iff_ne_zero, Ne, State.entryCount, Vec.count_eq_zero]
  simp only [not_forall, Bool.not_eq_false, Entry.inWindow, State.entry]
  constructor
  · rintro ⟨e, h⟩
    refine ⟨e, ?_⟩
    split at h
    · rename_i k hk
      exact ⟨k, hk, by simpa using h⟩
    · cases h
  · rintro ⟨e, k, h1, h2⟩
    exact ⟨e, by simp [h1, h2]⟩

/-- R40 check 4. -/
theorem imageFits_iff (m : WindowImage) : imageFits m = true ↔ m.base.toNat + m.size.toNat * 2 ^ m.exponent.toNat ≤ 2 ^ 40 := by
  simp [imageFits]

/-- R40: the geometries differ. -/
theorem imageDiffers_iff (m : WindowImage) (w : Window) : imageDiffers m w = true ↔ ¬ (m.base = w.base ∧ m.size.toNat = w.size ∧ m.exponent.toNat = w.exponent) := by
  simp [imageDiffers]; tauto

/-- R4: the lowest FREE way of a bucket is the one placement finds. -/
theorem State.freeWay_of {s : State} {key : Key} {e} (h : e ∈ key.ways) (hf : s.entry e = .free) (hl : ∀ e' ∈ key.ways, e' < e → s.entry e' ≠ .free) : s.freeWay key = some e := by
  unfold State.freeWay
  rw [List.find?_eq_some_iff_getElem]
  refine ⟨by simp [hf, Entry.isFree], ?_⟩
  obtain ⟨n, hn, rfl⟩ := List.mem_iff_getElem.mp h
  refine ⟨n, hn, rfl, ?_⟩
  intro m hm
  have hmem : key.ways[m] ∈ key.ways := List.getElem_mem _
  have hlt : key.ways[m] < key.ways[n] := by
    simp only [Key.ways, List.getElem_map, List.getElem_finRange]
    simp only [wayIndex, Fin.lt_def]
    have : m < 4 := by simpa [Key.ways] using (lt_trans hm hn)
    have : n < 4 := by simpa [Key.ways] using (hn)
    simp; omega
  have := hl _ hmem hlt
  cases hx : s.entry key.ways[m] <;> simp_all [Entry.isFree]

/-- R4: with no FREE way in the bucket, placement finds none. -/
theorem State.freeWay_none_of {s : State} {key : Key} (h : ∀ e ∈ key.ways, s.entry e ≠ .free) : s.freeWay key = none := by
  unfold State.freeWay
  rw [List.find?_eq_none]
  intro e he
  have := h e he
  cases hx : s.entry e <;> simp_all [Entry.isFree]

/-- R168, R163: a management command is answered by a body that gives no results and changes nothing where it refuses, and
that never touches the port or the frames held. -/
theorem exec_body (s : State) (i : Instr) (c : Command) (bs : List Byte) (hf : frameOf i = some (c, bs)) :
   ∃ body : State → Answer, exec i s = runCommand c i body s ∧
     (((body s).status ≠ .done → (body s).results = []) ∧
      ((body s).status ≠ .done → (body s).status ≠ .accepted → (body s).state = s) ∧
      (body s).state.port = s.port ∧ (body s).state.passedOn = s.passedOn) := by
  cases i <;> simp only [frameOf, Option.some.injEq, Prod.mk.injEq, reduceCtorEq] at hf <;> obtain ⟨rfl, -⟩ := hf
  all_goals refine ⟨_, rfl, ?_⟩
  case setWindow => unfold setWindowBody; (repeat' split) <;> simp [refuse, done, State.putWindow]
  case enableWindow => unfold enableWindowBody; (repeat' split) <;> simp [refuse, done, State.putWindow]
  case readWindow => unfold readWindowBody; (repeat' split) <;> simp [refuse, done, State.putWindow]
  case setOutside => unfold setOutsideBody; simp [refuse, done, State.putWindow]
  case setGate => unfold setGateBody; (repeat' split) <;> simp [refuse, done, State.putGate]
  case setGateConfig => unfold setGateConfigBody; (repeat' split) <;> simp [refuse, done, State.putGate]
  case loadBudget => unfold loadBudgetBody; (repeat' split) <;> simp [refuse, done, State.putGate]
  case readGate => unfold readGateBody; (repeat' split) <;> simp [refuse, done, State.putGate]
  case readCounters => unfold readCountersBody; (repeat' split) <;> simp [refuse, done, State.putGate]
  case insertEntry => unfold insertEntryBody; (repeat' split) <;> simp [refuse, done, State.putEntry]
  case updateEntry => unfold updateEntryBody; (repeat' split) <;> simp [refuse, done, State.putEntry]
  case deleteEntry => unfold deleteEntryBody; (repeat' split) <;> simp [refuse, done]
  case findEntry => unfold findEntryBody; (repeat' split) <;> simp [refuse, done]
  case readEntry => unfold readEntryBody; (repeat' split) <;> simp [refuse, done]
  case fetchEvents => unfold fetchEventsBody; (repeat' split) <;> simp [refuse, done]
  case ackEvents => unfold ackEventsBody; (repeat' split) <;> simp [refuse, done]
  case status => unfold statusBody; simp [refuse, done]
  case setTimers => unfold setTimersBody; simp [refuse, done]
  case repeatReply => unfold repeatReplyBody; (repeat' split) <;> simp [refuse, done]
  case abort => unfold abortBody; (repeat' split) <;> simp [refuse, done]
  case purge => unfold purgeBody acceptLong; (repeat' split) <;> simp [refuse, accept]
  case reown => unfold reownBody acceptLong; (repeat' split) <;> simp [refuse, accept]
  case sweepNow => unfold sweepNowBody acceptLong; (repeat' split) <;> simp [refuse, accept]
  case restart => unfold restartBody acceptLong; (repeat' split) <;> simp [refuse, accept]

end Sys2Proof.Machine
end

