-- ==== Sys2Proof/Laws/Due.lean ====
section
/-! SUPPORT. What it says that nothing falls due by a time, and which times the time base can move on to. -/

namespace Sys2Proof.Machine

variable (s : State) (t : Nat)

/-- R191: the drain is not complete while some slot is other than FREE or ORPHANED. -/
theorem State.drainComplete_eq_false :
    s.drainComplete = false ↔ ∃ k, s.slot k ≠ .free ∧ ∀ a, s.slot k ≠ .orphaned a := by
  simp only [State.drainComplete, List.all_eq_false, Vec.mem_toList, State.slot]
  constructor
  · rintro ⟨x, ⟨k, rfl⟩, hx⟩
    refine ⟨k, ?_⟩
    cases h : s.slots.get k <;> simp_all
  · rintro ⟨k, h1, h2⟩
    refine ⟨_, ⟨k, rfl⟩, ?_⟩
    cases h : s.slots.get k <;> simp_all

/-- R192: the drain limit lies after a time exactly when the stop time and 10,000 µs do. -/
theorem State.limitBy_eq_false : s.limitBy t = false ↔ ∀ stop, s.long.stopTime = some stop → t < stop + 10000 := by
  unfold State.limitBy
  split
  · rename_i n h
    change decide (n + 10000 ≤ t) = false ↔ _
    rw [decide_eq_false_iff_not, h]
    simp
  · rename_i h
    simp [h]

theorem State.restarting_iff : s.restarting = true ↔ s.long.kind = .restart := by simp [State.restarting]

theorem State.drainLimitDue_eq_false : s.drainLimitDue t = false ↔
    (s.long.kind = .restart → s.long.drainForcing = false → (∃ k, s.slot k ≠ .free ∧ ∀ a, s.slot k ≠ .orphaned a) →
      ∀ stop, s.long.stopTime = some stop → t < stop + 10000) := by
  rw [← State.drainComplete_eq_false, ← State.limitBy_eq_false, ← State.restarting_iff]
  unfold State.drainLimitDue
  cases s.restarting <;> cases s.drainComplete <;> cases s.long.drainForcing <;> simp

theorem Slot.isOutstanding_iff (x : Slot) : x.isOutstanding = true ↔ ∃ a link d, x = .outstanding a link d := by
  cases x <;> simp [Slot.isOutstanding]

theorem State.forcedSlot_eq_none : s.forcedSlot t = none ↔
    (s.long.kind = .restart → s.long.drainForcing = true → (∃ k a link d, s.slot k = .outstanding a link d) →
      ∀ stop, s.long.stopTime = some stop → t < stop + 10000) := by
  simp only [← Slot.isOutstanding_iff]
  rw [← State.limitBy_eq_false, ← State.restarting_iff]
  unfold State.forcedSlot
  cases s.restarting <;> cases s.limitBy t <;> cases s.long.drainForcing <;> simp

theorem Slot.expiredBy_eq_false (x : Slot) :
    x.expiredBy t = false ↔ ∀ a link d, x = .outstanding a link (some d) → t < d := by
  unfold Slot.expiredBy
  split
  · simp
  · rename_i h
    simp only [true_iff]
    intro a l d hx
    exact absurd hx (h a l d)

theorem State.expiredSlot_eq_none : s.expiredSlot t = none ↔
    ∀ k a link d, s.slot k = .outstanding a link (some d) → t < d := by
  simp [State.expiredSlot, List.find?_eq_none, Slot.expiredBy_eq_false]

theorem State.timerExpiryDue_eq_false : s.timerExpiryDue t = false ↔
    (s.sweep.expiryDue = true → s.long.kind ≠ .restart → t < s.sweep.boundary) := by
  simp only [State.timerExpiryDue, State.restarting]
  cases s.sweep.expiryDue <;> cases s.long.kind <;> simp

/-- Nothing is due by a time exactly when every timed happening falls due after it. -/
theorem State.dueBy_eq_none : s.dueBy t = none ↔ s.NothingDueBefore (t + 1) := by
  have parts : s.dueBy t = none ↔ s.drainLimitDue t = false ∧ s.forcedSlot t = none ∧ s.expiredSlot t = none
      ∧ s.timerExpiryDue t = false ∧ t < s.sweep.nextBoundary := by
    unfold State.dueBy
    cases s.drainLimitDue t <;> cases s.forcedSlot t <;> cases s.expiredSlot t <;> cases s.timerExpiryDue t <;> simp
  rw [parts, State.drainLimitDue_eq_false, State.forcedSlot_eq_none, State.expiredSlot_eq_none,
    State.timerExpiryDue_eq_false]
  constructor
  · rintro ⟨h1, h2, h3, h4, h5⟩
    exact ⟨h3, h5, h4, h1, h2⟩
  · rintro ⟨h3, h5, h4, h1, h2⟩
    exact ⟨h1, h2, h3, h4, h5⟩

/-- The time base reaches a time exactly when it stands there or later, or nothing falls due before it. -/
theorem State.canReach_iff : s.canReach t = true ↔ t ≤ s.now ∨ s.NothingDueBefore t := by
  by_cases h : t ≤ s.now
  · simp [State.canReach, h]
  · have ht : t - 1 + 1 = t := by omega
    rw [State.canReach, Bool.or_eq_true, decide_eq_true_iff, Option.isNone_iff_eq_none, State.dueBy_eq_none, ht]

/-- What is not due before a time is not due before an earlier one. -/
theorem State.NothingDueBefore.mono {s : State} {t u : Nat} (h : s.NothingDueBefore t) (hu : u ≤ t) :
    s.NothingDueBefore u where
  deadlines k a l d hk := hu.trans (h.deadlines k a l d hk)
  boundary := hu.trans h.boundary
  expiry h1 h2 := hu.trans (h.expiry h1 h2)
  limit h1 h2 h3 n hn := hu.trans (h.limit h1 h2 h3 n hn)
  forced h1 h2 h3 n hn := hu.trans (h.forced h1 h2 h3 n hn)

end Sys2Proof.Machine
end

