-- ==== Sys2Proof/Laws/Walks.lean ====
section
/-! SUPPORT. What one step of the sweep, of a PURGE and of a REOWN does to the entry it judges, and how a walk and a sweep move
on. -/

namespace Sys2Proof.Machine

variable (s : State)

/-- A replacement by the entry already there changes nothing. -/
@[simp] theorem State.putEntry_same {e : EntryIndex} {x : Entry} (h : s.entry e = x) : s.putEntry e x = s := by
  subst h
  simp [State.putEntry, State.entry]

/-- R132: the entry a sweep step leaves in place of another, in a window with this age limit. -/
def Entry.swept (limit : Nat) : Entry → Entry
  | .claimed key c =>
    if c.claimSlot.isSome then .claimed key c
    else if c.touched then .claimed key { c with touched := false, age := 0 }
    else if limit ≤ c.age + 1 then .free
    else .claimed key { c with age := c.age + 1 }
  | x => x

/-- The age limit a sweep step on this entry reads. -/
def State.limitFor (s : State) (x : Entry) : Nat :=
  match x with
  | .claimed key _ => (s.window key.window).ageLimit
  | _ => 0

/-- Everything a sweep step does to the table, the released count and the queue. -/
theorem State.sweepEntry_spec (e : EntryIndex) :
    s.sweepEntry e = { s with
      table := s.table.set e ((s.entry e).swept (s.limitFor (s.entry e)))
      sweep := { s.sweep with released := s.sweep.released + if s.releases e then 1 else 0 }
      queue := (s.raiseAll (s.releaseEvents e)).queue } := by
  have same : ∀ x, s.entry e = x → s = { s with table := s.table.set e x } := fun x h => by
    have := State.putEntry_same s h
    exact this.symm
  unfold State.sweepEntry
  cases hx : s.entry e with
  | free => simpa [Entry.swept, State.releases, State.releaseEvents, State.raiseAll, hx] using same _ hx
  | pinned k p => simpa [Entry.swept, State.releases, State.releaseEvents, State.raiseAll, hx] using same _ hx
  | barred k => simpa [Entry.swept, State.releases, State.releaseEvents, State.raiseAll, hx] using same _ hx
  | claimed k c =>
    cases hs : c.claimSlot with
    | some j =>
      simp only [State.ageEntry, hs, Option.isSome_some, if_true, Entry.swept, State.releases, State.releaseEvents, hx,
        Option.isNone_some, Bool.false_and, Bool.false_eq_true, if_false, State.raiseAll, Nat.add_zero]
      rfl
    | none =>
      cases ht : c.touched with
      | true =>
        simp only [State.ageEntry, hs, ht, Option.isSome_none, Bool.false_eq_true, if_false, if_true, Entry.swept,
          State.releases, State.releaseEvents, hx, Bool.not_true, Bool.and_false, Bool.false_and, State.raiseAll,
          Nat.add_zero]
        rfl
      | false =>
        by_cases hl : (s.window k.window).ageLimit ≤ c.age + 1
        · have hf : s.freeEntry e = s.putEntry e .free := by simp [State.freeEntry, hx, Entry.claimSlot?, hs]
          have hr : s.releases e = true := by simp [State.releases, hx, hs, ht, hl]
          simp only [State.ageEntry, hs, ht, Option.isSome_none, Bool.false_eq_true, if_false, hl, if_true, Entry.swept,
            State.limitFor, State.releaseEvents, hx, hr, Bool.true_and, hf]
          split
          · refine (State.raise_eq_of s ?_ ?_ _).trans ?_ <;> rfl
          · rfl
        · simp only [State.ageEntry, hs, ht, Option.isSome_none, Bool.false_eq_true, if_false, hl, Entry.swept,
            State.limitFor, State.releases, State.releaseEvents, hx, decide_false, Bool.and_false, Bool.false_and,
            State.raiseAll, Nat.add_zero]
          rfl

/-- R180: the running PURGE matches an entry, said field by field. -/
theorem LongOp.purges_iff {l : LongOp} {ks : KindSet} (h : l.kindSet = some ks) (x : Entry) :
    l.purges x = true ↔
      ((x.isClaimed = true ∧ ks.claimed = true) ∨ ((∃ k p, x = .pinned k p) ∧ ks.pinned = true)
        ∨ ((∃ k, x = .barred k) ∧ ks.barred = true))
      ∧ (∀ w, l.windowFilter = some w → ∃ k, x.key? = some k ∧ k.window = w)
      ∧ (∀ i, l.ownerFilter = some i →
          (∃ k c, x = .claimed k c ∧ c.owner = i) ∨ ∃ k p, x = .pinned k p ∧ p.owner = i) := by
  have hw : passesWindow l.windowFilter x = true ↔ ∀ w, l.windowFilter = some w → ∃ k, x.key? = some k ∧ k.window = w := by
    cases l.windowFilter with
    | none => simp [passesWindow]
    | some w => cases x <;> simp [passesWindow, Entry.inWindow, Entry.key?]
  have ho : passesOwner l.ownerFilter x = true ↔ ∀ i, l.ownerFilter = some i →
      (∃ k c, x = .claimed k c ∧ c.owner = i) ∨ ∃ k p, x = .pinned k p ∧ p.owner = i := by
    cases l.ownerFilter with
    | none => simp [passesOwner]
    | some i => cases x <;> simp [passesOwner, Entry.owner?]
  have hk : ks.has x = true ↔
      ((x.isClaimed = true ∧ ks.claimed = true) ∨ ((∃ k p, x = .pinned k p) ∧ ks.pinned = true)
        ∨ ((∃ k, x = .barred k) ∧ ks.barred = true)) := by
    cases x <;> simp [KindSet.has, Entry.isClaimed]
  simp only [LongOp.purges, h, Bool.and_eq_true, hw, ho, hk, and_assoc]

/-- How a walk moves on: the cursor rises, and the step at index 1023 completes the walk with its affected count. -/
theorem State.advanceWalk_spec (c : DoneCommand) :
    s.advanceWalk c = { s with
      long := { s.long with cursor := s.long.cursor + 1,
                            kind := if s.long.cursor + 1 = 1024 then .none else s.long.kind }
      queue := (s.raiseAll (if s.long.cursor + 1 = 1024 then [.commandDone c .complete s.long.affected] else [])).queue } := by
  by_cases h : s.long.cursor + 1 = 1024
  · simp only [State.advanceWalk, State.putLong_long, h, if_true, State.endLong]
    refine (State.raise_eq_of s ?_ ?_ _).trans ?_ <;> rfl
  · simp only [State.advanceWalk, State.putLong_long, h, if_false]
    rfl

/-- How a sweep moves on: the cursor rises, and the step at index 1023 ends the sweep, which the Command Unit takes when a
SWEEP_NOW waits. -/
theorem State.advanceSweep_spec :
    s.advanceSweep =
      if s.sweep.cursor + 1 = 1024 then { s with
        sweep := s.sweep.finish
        long := if s.long.kind = .sweep ∧ s.long.awaited = some .current then
                  { s.long with kind := .none, affected := s.sweep.released }
                else if s.long.kind = .sweep ∧ s.long.awaited = some .next then
                  { s.long with awaited := some .current }
                else s.long
        queue := (s.raiseAll (if s.long.kind = .sweep ∧ s.long.awaited = some .current then
          [.commandDone .sweep .complete s.sweep.released] else [])).queue }
      else { s with sweep := { s.sweep with cursor := s.sweep.cursor + 1 } } := by
  unfold State.advanceSweep
  split
  · unfold State.sweepEnded
    split
    · rename_i h1 h2
      have c1 : s.long.kind = .sweep ∧ s.long.awaited = some .current := ⟨h1, h2⟩
      rw [if_pos c1, if_pos c1]
      refine (State.raise_eq_of s ?_ ?_ _).trans ?_ <;> rfl
    · rename_i h1 h2
      have c1 : ¬ (s.long.kind = .sweep ∧ s.long.awaited = some .current) := by
        rintro ⟨-, h⟩
        exact absurd (h.symm.trans h2) (by decide)
      have c2 : s.long.kind = .sweep ∧ s.long.awaited = some .next := ⟨h1, h2⟩
      rw [if_neg c1, if_pos c2, if_neg c1]
      rfl
    · rename_i h1 h2
      have c1 : ¬ (s.long.kind = .sweep ∧ s.long.awaited = some .current) := fun h => h1 h.1 h.2
      have c2 : ¬ (s.long.kind = .sweep ∧ s.long.awaited = some .next) := fun h => h2 h.1 h.2
      rw [if_neg c1, if_neg c2, if_neg c1]
      rfl
  · rfl

end Sys2Proof.Machine
end

