-- ==== Sys2Proof/Laws/Frames.lean ====
section
/-! SUPPORT. The frame of every command: the fields it can change, and that it changes no other. -/

namespace Sys2Proof.Machine

variable {s t : State}

/-! ### The happenings -/

theorem execColdReset_frame (h : execColdReset s = .next t) :
    t = { State.reset with sweep := .cold s.now, port := .cold s.port.selHigh s.port.replyCount, now := s.now,
                           sentDown := s.sentDown, leftUp := s.leftUp, pending := s.pending } := by
  cases h
  rfl

theorem execPresentRequest_frame {r : Request} (h : execPresentRequest r s = .next t) :
    t = { s with lanes := t.lanes } := by
  unfold execPresentRequest at h
  split at h <;> cases h <;> rfl

theorem State.outcome_frame (s : State) (r : Request) (j : Judgement) (k : SlotNo) :
    s.outcome r j k = { s with
      lanes := (s.outcome r j k).lanes, roundRobin := (s.outcome r j k).roundRobin, table := (s.outcome r j k).table,
      gates := (s.outcome r j k).gates, slots := (s.outcome r j k).slots,
      returnLists := (s.outcome r j k).returnLists, forwardQueue := (s.outcome r j k).forwardQueue,
      queue := (s.outcome r j k).queue } := (State.outcome_spec s r j k).1.rest

theorem execAdmission_frame (h : execAdmission s = .next t) :
    t = { s with lanes := t.lanes, roundRobin := t.roundRobin, table := t.table, gates := t.gates, slots := t.slots,
                 returnLists := t.returnLists, forwardQueue := t.forwardQueue, queue := t.queue } := by
  unfold execAdmission at h
  split at h
  · split at h
    · cases h
      unfold State.admitRequest
      split
      · exact (State.answerMalformed_spec s _ _).1.rest
      · split
        rename_i j held _
        split
        · rw [State.holdRequest, State.raiseAll_eq]
          rfl
        · exact (State.outcome_spec s _ j _).1.rest
    · cases h
      rfl
  · cases h
    rfl

theorem State.timeOut_frame (s : State) (k : SlotNo) :
    s.timeOut k = { s with slots := (s.timeOut k).slots, table := (s.timeOut k).table, queue := (s.timeOut k).queue } := by
  unfold State.timeOut
  split
  · rw [State.voidClaim_eq, State.raise_eq]
    rfl
  · rfl

theorem execSend_frame (h : execSend s = .next t) :
    t = { s with forwardQueue := t.forwardQueue, slots := t.slots, table := t.table, sentDown := t.sentDown,
                 queue := t.queue } := by
  unfold execSend at h
  split at h
  · cases h
    rfl
  · split at h
    · cases h
      split
      · rw [State.timeOut_frame]
        rfl
      · rfl
    · cases h
      rfl

theorem execDownstreamResponse_frame {k : SlotNo} {st : RespStatus} {d : List Byte}
    (h : execDownstreamResponse k st d s = .next t) :
    t = { s with slots := t.slots, table := t.table, queue := t.queue } := by
  unfold execDownstreamResponse at h
  split at h
  · split at h
    · cases h
      rw [State.confirmClaim_eq]
      rfl
    · cases h
      rw [State.voidClaim_eq]
      rfl
  all_goals
    cases h
    rw [State.raise_eq]
    rfl

theorem execDeadlineExpiry_frame {k : SlotNo} (h : execDeadlineExpiry k s = .next t) :
    t = { s with slots := t.slots, table := t.table, queue := t.queue, now := t.now } := by
  unfold execDeadlineExpiry at h
  split at h
  · split at h
    · cases h
      rw [State.timeOut_frame]
      rfl
    · cases h
      rfl
  · cases h
    rfl

theorem execForcedTimeout_frame {k : SlotNo} (h : execForcedTimeout k s = .next t) :
    t = { s with slots := t.slots, table := t.table, queue := t.queue } := by
  unfold execForcedTimeout at h
  split at h
  · cases h
    exact State.timeOut_frame s k
  · cases h
    rfl

theorem execDeparture_frame (h : execDeparture s = .next t) :
    t = { s with leftUp := t.leftUp, returnLists := t.returnLists, slots := t.slots,
                 responsePointer := t.responsePointer } := by
  unfold execDeparture at h
  (repeat' split at h) <;> cases h <;> rfl

theorem execTimerMillisecondBoundary_frame (h : execTimerMillisecondBoundary s = .next t) :
    t = { s with now := t.now, sweep := t.sweep } := by
  simp only [execTimerMillisecondBoundary] at h
  split at h <;> cases h <;> rfl

theorem execIntervalTimerExpiry_frame (h : execIntervalTimerExpiry s = .next t) : t = { s with sweep := t.sweep } := by
  unfold execIntervalTimerExpiry at h
  split at h <;> cases h <;> rfl

theorem execSweepStep_frame (h : execSweepStep s = .next t) :
    t = { s with table := t.table, sweep := t.sweep, long := t.long, queue := t.queue } := by
  unfold execSweepStep at h
  split at h
  · cases h
    rw [State.advanceSweep_spec]
    split
    · rw [State.sweepEntry_spec]
    · rw [State.sweepEntry_spec]
  · cases h
    rfl

theorem execPurgeStep_frame (h : execPurgeStep s = .next t) :
    t = { s with table := t.table, slots := t.slots, long := t.long, queue := t.queue } := by
  unfold execPurgeStep at h
  split at h
  · cases h
    rw [State.advanceWalk_spec]
    unfold State.purgeEntry
    split
    · rw [State.countAffected, State.freeEntry_eq]
      rfl
    · rfl
  · cases h
    rfl

theorem State.reownEntry_eq (s : State) (e : EntryIndex) :
    s.reownEntry e = { s with table := (s.reownEntry e).table, long := (s.reownEntry e).long } := by
  unfold State.reownEntry
  split
  · simp only []
    split
    · split <;> rfl
    · rfl
  · rfl

theorem execReownStep_frame (h : execReownStep s = .next t) :
    t = { s with table := t.table, long := t.long, queue := t.queue } := by
  unfold execReownStep at h
  split at h
  · cases h
    rw [State.advanceWalk_spec]
    rw [State.reownEntry_eq]
  · cases h
    rfl

theorem execWalkEndAborted_frame (h : execWalkEndAborted s = .next t) :
    t = { s with long := t.long, queue := t.queue } := by
  unfold execWalkEndAborted State.endLong at h
  split at h
  · split at h
    · cases h
      rw [State.raise_eq]
      rfl
    · cases h
      rw [State.raise_eq]
      rfl
    · cases h
      rfl
  · cases h
    rfl

theorem execDrainLimit_frame (h : execDrainLimit s = .next t) : t = { s with now := t.now, long := t.long } := by
  unfold execDrainLimit at h
  (repeat' split at h) <;> cases h <;> rfl

theorem execClearStep_frame (h : execClearStep s = .next t) :
    t = { s with table := t.table, slots := t.slots, returnLists := t.returnLists, forwardQueue := t.forwardQueue,
                 queue := t.queue, gates := t.gates, long := t.long } := by
  unfold execClearStep at h
  split at h <;> cases h <;> rfl

theorem execResumeStep_frame (h : execResumeStep s = .next t) :
    t = { s with sweep := t.sweep, long := t.long, queue := t.queue } := by
  unfold execResumeStep State.resume at h
  split at h
  · cases h
    rw [State.raise_eq]
    rfl
  · cases h
    rfl

theorem execSelFall_frame (h : execSelFall s = .next t) : t = { s with port := t.port } := by
  unfold execSelFall at h
  split at h <;> cases h <;> rfl

theorem execSelRise_frame (h : execSelRise s = .next t) : t = { s with port := t.port, queue := t.queue } := by
  unfold execSelRise at h
  split at h
  · cases h
    rfl
  · split at h
    · cases h
      rw [State.raise_eq]
      rfl
    · cases h
      rfl

theorem execSckCycle_frame {b : Bool} (h : execSckCycle b s = .next t) :
    t = { s with port := t.port, passedOn := t.passedOn } := by
  unfold execSckCycle at h
  split at h
  · cases h
    rfl
  · (repeat' split at h) <;> cases h <;> rfl

theorem execCheckMismatch_frame {c : Byte} (h : execCheckMismatch c s = .next t) :
    t = { s with port := t.port, passedOn := t.passedOn } := by
  unfold execCheckMismatch at h
  split at h <;> cases h <;> rfl

theorem execUnknownCommand_frame {c : Byte} (h : execUnknownCommand c s = .next t) : t = { s with port := t.port } := by
  unfold execUnknownCommand at h
  (repeat' split at h) <;> cases h <;> rfl

/-! ### The management commands -/

/-- What a management command's happening leaves, whatever its body: the body's state or the state before it, with the
port and the frames held as the reply leaves them. -/
theorem runCommand_frame {c : Command} {i : Instr} {body : State → Answer} (h : runCommand c i body s = .next t) :
    t = { s with port := t.port, passedOn := t.passedOn }
    ∨ t = { (body s).state with port := t.port, passedOn := t.passedOn } := by
  rcases runCommand_cases c i body s with ⟨_, hr⟩ | ⟨_, a, ha | ha, hr⟩
  · rw [hr] at h
    cases h
    exact .inl rfl
  · rw [hr] at h
    cases h
    subst ha
    exact .inl rfl
  · rw [hr] at h
    cases h
    subst ha
    exact .inr rfl

theorem setWindowBody_frame (w : Byte) (m : WindowImage) (s : State) :
    (setWindowBody w m s).state = { s with windows := (setWindowBody w m s).state.windows } := by
  unfold setWindowBody
  (repeat' split) <;> rfl

theorem enableWindowBody_frame (w c : Byte) (s : State) :
    (enableWindowBody w c s).state = { s with windows := (enableWindowBody w c s).state.windows } := by
  unfold enableWindowBody
  (repeat' split) <;> rfl

theorem readWindowBody_frame (w : Byte) (s : State) : (readWindowBody w s).state = s := by
  unfold readWindowBody
  split <;> rfl

theorem setGateBody_frame (i g : Byte) (s : State) :
    (setGateBody i g s).state = { s with gates := (setGateBody i g s).state.gates } := by
  unfold setGateBody
  split <;> rfl

theorem setGateConfigBody_frame (i p n b x : Byte) (s : State) :
    (setGateConfigBody i p n b x s).state = { s with gates := (setGateConfigBody i p n b x s).state.gates } := by
  unfold setGateConfigBody
  split <;> rfl

theorem loadBudgetBody_frame (i : Byte) (r n : BitVec 32) (s : State) :
    (loadBudgetBody i r n s).state = { s with gates := (loadBudgetBody i r n s).state.gates } := by
  unfold loadBudgetBody
  split <;> rfl

theorem readGateBody_frame (i : Byte) (s : State) : (readGateBody i s).state = s := by
  unfold readGateBody
  split <;> rfl

theorem readCountersBody_frame (i c : Byte) (s : State) :
    (readCountersBody i c s).state = { s with gates := (readCountersBody i c s).state.gates } := by
  unfold readCountersBody
  split <;> rfl

theorem insertEntryBody_frame (m : EntryImage) (s : State) :
    (insertEntryBody m s).state = { s with table := (insertEntryBody m s).state.table } := by
  unfold insertEntryBody
  (repeat' split) <;> rfl

theorem updateEntryBody_frame (m : EntryImage) (c : Byte) (s : State) :
    (updateEntryBody m c s).state = { s with table := (updateEntryBody m c s).state.table } := by
  unfold updateEntryBody
  (repeat' split) <;> rfl

theorem deleteEntryBody_frame (w : Byte) (g : BitVec 24) (s : State) :
    (deleteEntryBody w g s).state =
      { s with table := (deleteEntryBody w g s).state.table, slots := (deleteEntryBody w g s).state.slots } := by
  unfold deleteEntryBody
  (repeat' split) <;> first | rfl | (simp only [done]; rw [State.freeEntry_eq])

theorem findEntryBody_frame (w : Byte) (g : BitVec 24) (s : State) : (findEntryBody w g s).state = s := by
  unfold findEntryBody
  (repeat' split) <;> rfl

theorem readEntryBody_frame (n : BitVec 16) (s : State) : (readEntryBody n s).state = s := by
  unfold readEntryBody
  split <;> rfl

theorem fetchEventsBody_frame (n : Byte) (s : State) :
    (fetchEventsBody n s).state = { s with queue := (fetchEventsBody n s).state.queue } := by
  unfold fetchEventsBody
  split <;> rfl

theorem ackEventsBody_frame (n : BitVec 16) (s : State) :
    (ackEventsBody n s).state = { s with queue := (ackEventsBody n s).state.queue } := by
  unfold ackEventsBody
  (repeat' split) <;> rfl

theorem repeatReplyBody_frame (s : State) : (repeatReplyBody s).state = s := by
  unfold repeatReplyBody
  split <;> rfl

theorem abortBody_frame (s : State) : (abortBody s).state = { s with long := (abortBody s).state.long } := by
  unfold abortBody
  split <;> rfl

theorem purgeBody_frame (w o k : Byte) (s : State) :
    (purgeBody w o k s).state = { s with long := (purgeBody w o k s).state.long } := by
  unfold purgeBody acceptLong
  (repeat' split) <;> rfl

theorem reownBody_frame (f g w : Byte) (s : State) :
    (reownBody f g w s).state = { s with long := (reownBody f g w s).state.long } := by
  unfold reownBody acceptLong
  (repeat' split) <;> rfl

theorem sweepNowBody_frame (s : State) :
    (sweepNowBody s).state =
      { s with long := (sweepNowBody s).state.long, sweep := (sweepNowBody s).state.sweep } := by
  unfold sweepNowBody acceptLong
  split <;> rfl

theorem restartBody_frame (s : State) :
    (restartBody s).state = { s with long := (restartBody s).state.long, sweep := (restartBody s).state.sweep } := by
  unfold restartBody acceptLong
  split <;> rfl

end Sys2Proof.Machine
end

