-- ==== Sys2Proof/Laws/PerInstr.lean ====
section
/-! SUPPORT. The per-instruction family `FrameBytes`: the frame that sends a management command has as many argument
bytes as R198 gives its code; the other happenings have no frame. -/

namespace Sys2Proof

@[simp] theorem length_bytesOf (n x : Nat) : (bytesOf n x).length = n := by
  induction n with
  | zero => rfl
  | succ n ih => simp [bytesOf, ih]

@[simp] theorem WindowImage.length_bytes (m : WindowImage) : m.bytes.length = 15 := by simp [WindowImage.bytes]

@[simp] theorem EntryImage.length_bytes (m : EntryImage) : m.bytes.length = 10 := by simp [EntryImage.bytes]

@[simp] theorem OutsideImage.length_bytes (m : OutsideImage) : m.bytes.length = 5 := by simp [OutsideImage.bytes]

namespace Laws.FrameBytes

/-- R198: the argument bytes of a command's frame are as many as its code asks for. -/
def Statement (i : Instr) : Prop :=
  ∀ c bs, frameOf i = some (c, bs) → bs.length = c.argBytes

theorem coldReset : Statement .coldReset := by
  intro c' bs h
  simp only [frameOf, reduceCtorEq] at h

theorem presentRequest : ∀ r, Statement (.presentRequest r) := by
  intro r c' bs h
  simp only [frameOf, reduceCtorEq] at h

theorem admission : Statement .admission := by
  intro c' bs h
  simp only [frameOf, reduceCtorEq] at h

theorem send : Statement .send := by
  intro c' bs h
  simp only [frameOf, reduceCtorEq] at h

theorem downstreamResponse : ∀ t st d, Statement (.downstreamResponse t st d) := by
  intro t st d c' bs h
  simp only [frameOf, reduceCtorEq] at h

theorem deadlineExpiry : ∀ k, Statement (.deadlineExpiry k) := by
  intro k c' bs h
  simp only [frameOf, reduceCtorEq] at h

theorem forcedTimeout : ∀ k, Statement (.forcedTimeout k) := by
  intro k c' bs h
  simp only [frameOf, reduceCtorEq] at h

theorem departure : Statement .departure := by
  intro c' bs h
  simp only [frameOf, reduceCtorEq] at h

theorem intervalTimerExpiry : Statement .intervalTimerExpiry := by
  intro c' bs h
  simp only [frameOf, reduceCtorEq] at h

theorem sweepStep : Statement .sweepStep := by
  intro c' bs h
  simp only [frameOf, reduceCtorEq] at h

theorem purgeStep : Statement .purgeStep := by
  intro c' bs h
  simp only [frameOf, reduceCtorEq] at h

theorem reownStep : Statement .reownStep := by
  intro c' bs h
  simp only [frameOf, reduceCtorEq] at h

theorem walkEndAborted : Statement .walkEndAborted := by
  intro c' bs h
  simp only [frameOf, reduceCtorEq] at h

theorem drainLimit : Statement .drainLimit := by
  intro c' bs h
  simp only [frameOf, reduceCtorEq] at h

theorem clearStep : Statement .clearStep := by
  intro c' bs h
  simp only [frameOf, reduceCtorEq] at h

theorem resumeStep : Statement .resumeStep := by
  intro c' bs h
  simp only [frameOf, reduceCtorEq] at h

theorem selRise : Statement .selRise := by
  intro c' bs h
  simp only [frameOf, reduceCtorEq] at h

theorem checkMismatch : ∀ c, Statement (.checkMismatch c) := by
  intro c c' bs h
  simp only [frameOf, reduceCtorEq] at h

theorem unknownCommand : ∀ c, Statement (.unknownCommand c) := by
  intro c c' bs h
  simp only [frameOf, reduceCtorEq] at h

theorem setWindow : ∀ w m, Statement (.setWindow w m) := by
  intro w m c' bs h
  simp only [frameOf, Option.some.injEq, Prod.mk.injEq] at h
  obtain ⟨rfl, rfl⟩ := h
  simp [Command.argBytes]

theorem enableWindow : ∀ w c, Statement (.enableWindow w c) := by
  intro w c c' bs h
  simp only [frameOf, Option.some.injEq, Prod.mk.injEq] at h
  obtain ⟨rfl, rfl⟩ := h
  simp [Command.argBytes]

theorem readWindow : ∀ w, Statement (.readWindow w) := by
  intro w c' bs h
  simp only [frameOf, Option.some.injEq, Prod.mk.injEq] at h
  obtain ⟨rfl, rfl⟩ := h
  simp [Command.argBytes]

theorem setOutside : ∀ m, Statement (.setOutside m) := by
  intro m c' bs h
  simp only [frameOf, Option.some.injEq, Prod.mk.injEq] at h
  obtain ⟨rfl, rfl⟩ := h
  simp [Command.argBytes]

theorem setGate : ∀ i g, Statement (.setGate i g) := by
  intro i g c' bs h
  simp only [frameOf, Option.some.injEq, Prod.mk.injEq] at h
  obtain ⟨rfl, rfl⟩ := h
  simp [Command.argBytes]

theorem setGateConfig : ∀ i p t b x, Statement (.setGateConfig i p t b x) := by
  intro i p t b x c' bs h
  simp only [frameOf, Option.some.injEq, Prod.mk.injEq] at h
  obtain ⟨rfl, rfl⟩ := h
  simp [Command.argBytes]

theorem loadBudget : ∀ i r n, Statement (.loadBudget i r n) := by
  intro i r n c' bs h
  simp only [frameOf, Option.some.injEq, Prod.mk.injEq] at h
  obtain ⟨rfl, rfl⟩ := h
  simp [Command.argBytes]

theorem readGate : ∀ i, Statement (.readGate i) := by
  intro i c' bs h
  simp only [frameOf, Option.some.injEq, Prod.mk.injEq] at h
  obtain ⟨rfl, rfl⟩ := h
  simp [Command.argBytes]

theorem readCounters : ∀ i c, Statement (.readCounters i c) := by
  intro i c c' bs h
  simp only [frameOf, Option.some.injEq, Prod.mk.injEq] at h
  obtain ⟨rfl, rfl⟩ := h
  simp [Command.argBytes]

theorem insertEntry : ∀ m, Statement (.insertEntry m) := by
  intro m c' bs h
  simp only [frameOf, Option.some.injEq, Prod.mk.injEq] at h
  obtain ⟨rfl, rfl⟩ := h
  simp [Command.argBytes]

theorem updateEntry : ∀ m c, Statement (.updateEntry m c) := by
  intro m c c' bs h
  simp only [frameOf, Option.some.injEq, Prod.mk.injEq] at h
  obtain ⟨rfl, rfl⟩ := h
  simp [Command.argBytes]

theorem deleteEntry : ∀ w g, Statement (.deleteEntry w g) := by
  intro w g c' bs h
  simp only [frameOf, Option.some.injEq, Prod.mk.injEq] at h
  obtain ⟨rfl, rfl⟩ := h
  simp [Command.argBytes]

theorem findEntry : ∀ w g, Statement (.findEntry w g) := by
  intro w g c' bs h
  simp only [frameOf, Option.some.injEq, Prod.mk.injEq] at h
  obtain ⟨rfl, rfl⟩ := h
  simp [Command.argBytes]

theorem readEntry : ∀ i, Statement (.readEntry i) := by
  intro i c' bs h
  simp only [frameOf, Option.some.injEq, Prod.mk.injEq] at h
  obtain ⟨rfl, rfl⟩ := h
  simp [Command.argBytes]

theorem setTimers : ∀ t i, Statement (.setTimers t i) := by
  intro t i c' bs h
  simp only [frameOf, Option.some.injEq, Prod.mk.injEq] at h
  obtain ⟨rfl, rfl⟩ := h
  simp [Command.argBytes]

theorem fetchEvents : ∀ n, Statement (.fetchEvents n) := by
  intro n c' bs h
  simp only [frameOf, Option.some.injEq, Prod.mk.injEq] at h
  obtain ⟨rfl, rfl⟩ := h
  simp [Command.argBytes]

theorem ackEvents : ∀ n, Statement (.ackEvents n) := by
  intro n c' bs h
  simp only [frameOf, Option.some.injEq, Prod.mk.injEq] at h
  obtain ⟨rfl, rfl⟩ := h
  simp [Command.argBytes]

theorem status : Statement .status := by
  intro c' bs h
  simp only [frameOf, Option.some.injEq, Prod.mk.injEq] at h
  obtain ⟨rfl, rfl⟩ := h
  simp [Command.argBytes]

theorem repeatReply : Statement .repeatReply := by
  intro c' bs h
  simp only [frameOf, Option.some.injEq, Prod.mk.injEq] at h
  obtain ⟨rfl, rfl⟩ := h
  simp [Command.argBytes]

theorem abort : Statement .abort := by
  intro c' bs h
  simp only [frameOf, Option.some.injEq, Prod.mk.injEq] at h
  obtain ⟨rfl, rfl⟩ := h
  simp [Command.argBytes]

theorem purge : ∀ w o k, Statement (.purge w o k) := by
  intro w o k c' bs h
  simp only [frameOf, Option.some.injEq, Prod.mk.injEq] at h
  obtain ⟨rfl, rfl⟩ := h
  simp [Command.argBytes]

theorem reown : ∀ a b w, Statement (.reown a b w) := by
  intro a b w c' bs h
  simp only [frameOf, Option.some.injEq, Prod.mk.injEq] at h
  obtain ⟨rfl, rfl⟩ := h
  simp [Command.argBytes]

theorem sweepNow : Statement .sweepNow := by
  intro c' bs h
  simp only [frameOf, Option.some.injEq, Prod.mk.injEq] at h
  obtain ⟨rfl, rfl⟩ := h
  simp [Command.argBytes]

theorem restart : Statement .restart := by
  intro c' bs h
  simp only [frameOf, Option.some.injEq, Prod.mk.injEq] at h
  obtain ⟨rfl, rfl⟩ := h
  simp [Command.argBytes]

theorem selFall : Statement .selFall := by
  intro c' bs h
  simp only [frameOf, reduceCtorEq] at h

theorem sckCycle : ∀ b, Statement (.sckCycle b) := by
  intro b c' bs h
  simp only [frameOf, reduceCtorEq] at h

theorem timerMillisecondBoundary : Statement .timerMillisecondBoundary := by
  intro c' bs h
  simp only [frameOf, reduceCtorEq] at h

end Laws.FrameBytes

end Sys2Proof
end

