-- ==== Sys2Proof/Laws/Untouched.lean ====
section
/-! SUPPORT. Which fields of the state each command can change, as data, and that it changes no other: what a law over all
commands splits on. -/

namespace Sys2Proof.Machine

/-- The fields of the state. -/
inductive Field where
  | lanes | roundRobin | windows | outside | table | gates | slots | returnLists | forwardQueue | responseTimeout
  | responsePointer | sweep | queue | port | passedOn | long | now | sentDown | leftUp
  | pending
  deriving DecidableEq, Repr

/-- The two states hold the same in this field. -/
def Field.same (s t : State) : Field → Prop
  | .lanes => t.lanes = s.lanes
  | .roundRobin => t.roundRobin = s.roundRobin
  | .windows => t.windows = s.windows
  | .outside => t.outside = s.outside
  | .table => t.table = s.table
  | .gates => t.gates = s.gates
  | .slots => t.slots = s.slots
  | .returnLists => t.returnLists = s.returnLists
  | .forwardQueue => t.forwardQueue = s.forwardQueue
  | .responseTimeout => t.responseTimeout = s.responseTimeout
  | .responsePointer => t.responsePointer = s.responsePointer
  | .sweep => t.sweep = s.sweep
  | .queue => t.queue = s.queue
  | .port => t.port = s.port
  | .passedOn => t.passedOn = s.passedOn
  | .long => t.long = s.long
  | .now => t.now = s.now
  | .sentDown => t.sentDown = s.sentDown
  | .leftUp => t.leftUp = s.leftUp
  | .pending => t.pending = s.pending

/-- The fields that a command can change. -/
def touched : Instr → List Field
  | .coldReset =>
    [.lanes, .roundRobin, .windows, .outside, .table, .gates, .slots, .returnLists, .forwardQueue,
     .responseTimeout, .responsePointer, .sweep, .queue, .port, .passedOn, .long]
  | .presentRequest _ =>
    [.lanes]
  | .admission =>
    [.lanes, .roundRobin, .table, .gates, .slots, .returnLists, .forwardQueue, .queue]
  | .send =>
    [.forwardQueue, .slots, .table, .sentDown, .queue]
  | .downstreamResponse _ _ _ | .forcedTimeout _ =>
    [.slots, .table, .queue]
  | .deadlineExpiry _ =>
    [.slots, .table, .queue, .now]
  | .departure =>
    [.leftUp, .returnLists, .slots, .responsePointer]
  | .intervalTimerExpiry =>
    [.sweep]
  | .sweepStep =>
    [.table, .sweep, .long, .queue]
  | .purgeStep =>
    [.table, .slots, .long, .queue]
  | .reownStep =>
    [.table, .long, .queue]
  | .walkEndAborted =>
    [.long, .queue]
  | .drainLimit =>
    [.now, .long]
  | .clearStep =>
    [.table, .slots, .returnLists, .forwardQueue, .queue, .gates, .long]
  | .resumeStep =>
    [.sweep, .long, .queue]
  | .selRise =>
    [.port, .queue]
  | .checkMismatch _ | .sckCycle _ | .readWindow _ | .readGate _ | .findEntry _ _ | .readEntry _ | .status
  | .repeatReply =>
    [.port, .passedOn]
  | .unknownCommand _ | .selFall =>
    [.port]
  | .timerMillisecondBoundary =>
    [.now, .sweep]
  | .setWindow _ _ | .enableWindow _ _ =>
    [.windows, .port, .passedOn]
  | .setOutside _ =>
    [.outside, .port, .passedOn]
  | .setGate _ _ | .setGateConfig _ _ _ _ _ | .loadBudget _ _ _ | .readCounters _ _ =>
    [.gates, .port, .passedOn]
  | .insertEntry _ | .updateEntry _ _ =>
    [.table, .port, .passedOn]
  | .deleteEntry _ _ =>
    [.table, .slots, .port, .passedOn]
  | .setTimers _ _ =>
    [.responseTimeout, .sweep, .port, .passedOn]
  | .fetchEvents _ | .ackEvents _ =>
    [.queue, .port, .passedOn]
  | .abort | .purge _ _ _ | .reown _ _ _ =>
    [.long, .port, .passedOn]
  | .sweepNow | .restart =>
    [.long, .sweep, .port, .passedOn]

variable {s t : State}

theorem Field.same_of_eq {u : State} (h : t = u) {f : Field} (hf : f.same s u) : f.same s t := by
  subst h
  exact hf

theorem Field.same_runCommand {c : Command} {i : Instr} {body : State → Answer} (h : runCommand c i body s = .next t)
    {f : Field} (hf : f ≠ .port ∧ f ≠ .passedOn) (hb : f.same s (body s).state) : f.same s t := by
  rcases runCommand_frame h with h | h
  · exact Field.same_of_eq h (by cases f <;> first | rfl | exact absurd rfl hf.1 | exact absurd rfl hf.2)
  · exact Field.same_of_eq h (by cases f <;> first | exact hb | exact absurd rfl hf.1 | exact absurd rfl hf.2)

/-- A command leaves every field it does not touch as it was. -/
theorem exec_same {c : Instr} (h : exec c s = .next t) {f : Field} (hf : f ∉ touched c) : f.same s t := by
  cases c
  case coldReset => exact Field.same_of_eq (execColdReset_frame h) (by cases f <;> first | rfl | exact absurd (by simp [touched]) hf)
  case presentRequest => exact Field.same_of_eq (execPresentRequest_frame h) (by cases f <;> first | rfl | exact absurd (by simp [touched]) hf)
  case admission => exact Field.same_of_eq (execAdmission_frame h) (by cases f <;> first | rfl | exact absurd (by simp [touched]) hf)
  case send => exact Field.same_of_eq (execSend_frame h) (by cases f <;> first | rfl | exact absurd (by simp [touched]) hf)
  case downstreamResponse => exact Field.same_of_eq (execDownstreamResponse_frame h) (by cases f <;> first | rfl | exact absurd (by simp [touched]) hf)
  case deadlineExpiry => exact Field.same_of_eq (execDeadlineExpiry_frame h) (by cases f <;> first | rfl | exact absurd (by simp [touched]) hf)
  case forcedTimeout => exact Field.same_of_eq (execForcedTimeout_frame h) (by cases f <;> first | rfl | exact absurd (by simp [touched]) hf)
  case departure => exact Field.same_of_eq (execDeparture_frame h) (by cases f <;> first | rfl | exact absurd (by simp [touched]) hf)
  case intervalTimerExpiry => exact Field.same_of_eq (execIntervalTimerExpiry_frame h) (by cases f <;> first | rfl | exact absurd (by simp [touched]) hf)
  case sweepStep => exact Field.same_of_eq (execSweepStep_frame h) (by cases f <;> first | rfl | exact absurd (by simp [touched]) hf)
  case purgeStep => exact Field.same_of_eq (execPurgeStep_frame h) (by cases f <;> first | rfl | exact absurd (by simp [touched]) hf)
  case reownStep => exact Field.same_of_eq (execReownStep_frame h) (by cases f <;> first | rfl | exact absurd (by simp [touched]) hf)
  case walkEndAborted => exact Field.same_of_eq (execWalkEndAborted_frame h) (by cases f <;> first | rfl | exact absurd (by simp [touched]) hf)
  case drainLimit => exact Field.same_of_eq (execDrainLimit_frame h) (by cases f <;> first | rfl | exact absurd (by simp [touched]) hf)
  case clearStep => exact Field.same_of_eq (execClearStep_frame h) (by cases f <;> first | rfl | exact absurd (by simp [touched]) hf)
  case resumeStep => exact Field.same_of_eq (execResumeStep_frame h) (by cases f <;> first | rfl | exact absurd (by simp [touched]) hf)
  case selRise => exact Field.same_of_eq (execSelRise_frame h) (by cases f <;> first | rfl | exact absurd (by simp [touched]) hf)
  case checkMismatch => exact Field.same_of_eq (execCheckMismatch_frame h) (by cases f <;> first | rfl | exact absurd (by simp [touched]) hf)
  case unknownCommand => exact Field.same_of_eq (execUnknownCommand_frame h) (by cases f <;> first | rfl | exact absurd (by simp [touched]) hf)
  case selFall => exact Field.same_of_eq (execSelFall_frame h) (by cases f <;> first | rfl | exact absurd (by simp [touched]) hf)
  case sckCycle => exact Field.same_of_eq (execSckCycle_frame h) (by cases f <;> first | rfl | exact absurd (by simp [touched]) hf)
  case timerMillisecondBoundary => exact Field.same_of_eq (execTimerMillisecondBoundary_frame h) (by cases f <;> first | rfl | exact absurd (by simp [touched]) hf)
  case setWindow =>
    exact Field.same_runCommand h (by constructor <;> rintro rfl <;> simp [touched] at hf)
      (Field.same_of_eq (setWindowBody_frame _ _ s)
      (by cases f <;> first | rfl | exact absurd (by simp [touched]) hf))
  case enableWindow =>
    exact Field.same_runCommand h (by constructor <;> rintro rfl <;> simp [touched] at hf)
      (Field.same_of_eq (enableWindowBody_frame _ _ s)
      (by cases f <;> first | rfl | exact absurd (by simp [touched]) hf))
  case readWindow =>
    exact Field.same_runCommand h (by constructor <;> rintro rfl <;> simp [touched] at hf)
      (Field.same_of_eq (readWindowBody_frame _ s) (by cases f <;> rfl))
  case setOutside =>
    exact Field.same_runCommand h (by constructor <;> rintro rfl <;> simp [touched] at hf)
      (by cases f <;> first | rfl | exact absurd (by simp [touched]) hf)
  case setGate =>
    exact Field.same_runCommand h (by constructor <;> rintro rfl <;> simp [touched] at hf)
      (Field.same_of_eq (setGateBody_frame _ _ s)
      (by cases f <;> first | rfl | exact absurd (by simp [touched]) hf))
  case setGateConfig =>
    exact Field.same_runCommand h (by constructor <;> rintro rfl <;> simp [touched] at hf)
      (Field.same_of_eq (setGateConfigBody_frame _ _ _ _ _ s)
      (by cases f <;> first | rfl | exact absurd (by simp [touched]) hf))
  case loadBudget =>
    exact Field.same_runCommand h (by constructor <;> rintro rfl <;> simp [touched] at hf)
      (Field.same_of_eq (loadBudgetBody_frame _ _ _ s)
      (by cases f <;> first | rfl | exact absurd (by simp [touched]) hf))
  case readGate =>
    exact Field.same_runCommand h (by constructor <;> rintro rfl <;> simp [touched] at hf)
      (Field.same_of_eq (readGateBody_frame _ s) (by cases f <;> rfl))
  case readCounters =>
    exact Field.same_runCommand h (by constructor <;> rintro rfl <;> simp [touched] at hf)
      (Field.same_of_eq (readCountersBody_frame _ _ s)
      (by cases f <;> first | rfl | exact absurd (by simp [touched]) hf))
  case insertEntry =>
    exact Field.same_runCommand h (by constructor <;> rintro rfl <;> simp [touched] at hf)
      (Field.same_of_eq (insertEntryBody_frame _ s)
      (by cases f <;> first | rfl | exact absurd (by simp [touched]) hf))
  case updateEntry =>
    exact Field.same_runCommand h (by constructor <;> rintro rfl <;> simp [touched] at hf)
      (Field.same_of_eq (updateEntryBody_frame _ _ s)
      (by cases f <;> first | rfl | exact absurd (by simp [touched]) hf))
  case deleteEntry =>
    exact Field.same_runCommand h (by constructor <;> rintro rfl <;> simp [touched] at hf)
      (Field.same_of_eq (deleteEntryBody_frame _ _ s)
      (by cases f <;> first | rfl | exact absurd (by simp [touched]) hf))
  case findEntry =>
    exact Field.same_runCommand h (by constructor <;> rintro rfl <;> simp [touched] at hf)
      (Field.same_of_eq (findEntryBody_frame _ _ s) (by cases f <;> rfl))
  case readEntry =>
    exact Field.same_runCommand h (by constructor <;> rintro rfl <;> simp [touched] at hf)
      (Field.same_of_eq (readEntryBody_frame _ s) (by cases f <;> rfl))
  case setTimers =>
    exact Field.same_runCommand h (by constructor <;> rintro rfl <;> simp [touched] at hf)
      (by cases f <;> first | rfl | exact absurd (by simp [touched]) hf)
  case fetchEvents =>
    exact Field.same_runCommand h (by constructor <;> rintro rfl <;> simp [touched] at hf)
      (Field.same_of_eq (fetchEventsBody_frame _ s)
      (by cases f <;> first | rfl | exact absurd (by simp [touched]) hf))
  case ackEvents =>
    exact Field.same_runCommand h (by constructor <;> rintro rfl <;> simp [touched] at hf)
      (Field.same_of_eq (ackEventsBody_frame _ s)
      (by cases f <;> first | rfl | exact absurd (by simp [touched]) hf))
  case status =>
    exact Field.same_runCommand h (by constructor <;> rintro rfl <;> simp [touched] at hf)
      (by cases f <;> first | rfl | exact absurd (by simp [touched]) hf)
  case repeatReply =>
    exact Field.same_runCommand h (by constructor <;> rintro rfl <;> simp [touched] at hf)
      (Field.same_of_eq (repeatReplyBody_frame s) (by cases f <;> rfl))
  case abort =>
    exact Field.same_runCommand h (by constructor <;> rintro rfl <;> simp [touched] at hf)
      (Field.same_of_eq (abortBody_frame s)
      (by cases f <;> first | rfl | exact absurd (by simp [touched]) hf))
  case purge =>
    exact Field.same_runCommand h (by constructor <;> rintro rfl <;> simp [touched] at hf)
      (Field.same_of_eq (purgeBody_frame _ _ _ s)
      (by cases f <;> first | rfl | exact absurd (by simp [touched]) hf))
  case reown =>
    exact Field.same_runCommand h (by constructor <;> rintro rfl <;> simp [touched] at hf)
      (Field.same_of_eq (reownBody_frame _ _ _ s)
      (by cases f <;> first | rfl | exact absurd (by simp [touched]) hf))
  case sweepNow =>
    exact Field.same_runCommand h (by constructor <;> rintro rfl <;> simp [touched] at hf)
      (Field.same_of_eq (sweepNowBody_frame s)
      (by cases f <;> first | rfl | exact absurd (by simp [touched]) hf))
  case restart =>
    exact Field.same_runCommand h (by constructor <;> rintro rfl <;> simp [touched] at hf)
      (Field.same_of_eq (restartBody_frame s)
      (by cases f <;> first | rfl | exact absurd (by simp [touched]) hf))

end Sys2Proof.Machine
end

