-- ==== Sys2Proof/Laws/Step.lean ====
section
/-! SUPPORT. What one step can do: it takes the command in front, takes a happening that is due, or lets a tick pass. -/

namespace Sys2Proof.Machine

/-- Everything a step can do. -/
theorem step_cases {s t : State} (h : step s = .next t) :
    (∃ c rest, s.pending = c :: rest ∧ exec c { s with pending := rest } = .next t)
    ∨ (s.pending = [] ∧ ∃ c, s.dueBy s.now = some c ∧ exec c s = .next t)
    ∨ (s.pending = [] ∧ s.dueBy s.now = none ∧ t = s.putNow (s.now + 1)) := by
  unfold step at h
  split at h
  · rename_i c rest hp
    exact .inl ⟨c, rest, hp, h⟩
  · rename_i hp
    unfold tick at h
    split at h
    · rename_i c hc
      exact .inr (.inl ⟨hp, c, hc, h⟩)
    · rename_i hc
      cases h
      exact .inr (.inr ⟨hp, hc, rfl⟩)

/-- The happenings that can fall due. -/
theorem dueBy_cases {s : State} {n : Nat} {c : Instr} (h : s.dueBy n = some c) :
    c = .drainLimit ∨ (∃ k, c = .forcedTimeout k) ∨ (∃ k, c = .deadlineExpiry k) ∨ c = .intervalTimerExpiry
      ∨ c = .timerMillisecondBoundary := by
  unfold State.dueBy at h
  (repeat' split at h) <;> cases h <;> simp

/-- A property that every command keeps, that neither reads the queue of waiting commands nor the time, every step keeps. -/
theorem step_keeps {P : State → Prop} (hp : ∀ s l, P s → P { s with pending := l }) (hn : ∀ s n, P s → P (s.putNow n))
    (he : ∀ c s t, P s → exec c s = .next t → P t) {s t : State} (hs : P s) (h : step s = .next t) : P t := by
  rcases step_cases h with ⟨c, rest, -, hc⟩ | ⟨-, c, -, hc⟩ | ⟨-, -, rfl⟩
  · exact he c _ t (hp s rest hs) hc
  · exact he c s t hs hc
  · exact hn s _ hs

end Sys2Proof.Machine
end

