-- ==== Sys2Proof/Laws/Tracker.lean ====
section
/-! SUPPORT. What the end of a claim and a timeout do, for a slot whose link agrees with the entry it names. -/

namespace Sys2Proof.Machine

variable (s : State)

/-- Voiding a slot's claim, where the slot already holds no link: the entry is FREE, the slots stay, and CLAIM_VOIDED is
settled. -/
theorem State.voidClaim_spec {u : State} {k : SlotNo} {a : SlotAccess} {l : Option EntryIndex} (h : s.linkAgrees k l)
    (ht : u.table = s.table) (hw : u.windows = s.windows) (hk : (u.slot k).unlink = u.slot k) :
    (∀ e, (u.voidClaim a l).entry e = if l = some e then .free else s.entry e)
    ∧ (u.voidClaim a l).slots = u.slots
    ∧ (u.voidClaim a l).queue = (u.raiseAll (s.voidEvents a l)).queue := by
  have he : ∀ e, u.entry e = s.entry e := fun e => by simp [State.entry, ht]
  refine ⟨fun e => by rw [State.entry_voidClaim, he], ?_, ?_⟩
  · apply Vec.ext_get
    intro j
    change (u.voidClaim a l).slot j = u.slot j
    rw [State.slot_voidClaim]
    cases l with
    | none => rfl
    | some e =>
      obtain ⟨key, c, hx, hc⟩ := h e rfl
      simp only [he, hx, Entry.claimSlot?, hc, Option.any_some, beq_iff_eq, Option.some.injEq]
      split
      · rename_i hj
        subst hj
        exact hk
      · rfl
  · cases l with
    | none => simp [State.voidClaim, State.voidEvents, State.raiseAll]
    | some e =>
      obtain ⟨key, c, hx, hc⟩ := h e rfl
      simp only [State.voidClaim, he, hx, Entry.key?, State.voidEvents, State.raiseAll]
      exact State.raise_queue_congr u (by simp) (by simp) _

/-- A timeout: the slot is READY with ERROR and the orphan mark, its claim's entry is FREE, and RESPONSE_TIMEOUT and then
CLAIM_VOIDED are settled. -/
theorem State.timeOut_spec {k : SlotNo} {a : SlotAccess} {l : Option EntryIndex} {d : Option Nat}
    (hs : s.slot k = .outstanding a l d) (h : s.linkAgrees k l) :
    (s.timeOut k).slot k = .ready a ⟨[], []⟩ ⟨.error, []⟩ true
    ∧ (∀ j, j ≠ k → (s.timeOut k).slot j = s.slot j)
    ∧ (∀ e, (s.timeOut k).entry e = if l = some e then .free else s.entry e)
    ∧ (s.timeOut k).queue = (s.raiseAll (.responseTimeout a.initiator a.addr k :: s.voidEvents a l)).queue
    ∧ s.timeOut k = { s with slots := (s.timeOut k).slots, table := (s.timeOut k).table,
                             queue := (s.timeOut k).queue } := by
  rw [State.timeOut_outstanding s hs]
  obtain ⟨h1, h2, h3⟩ := State.voidClaim_spec s
    (u := (s.putSlot k (.ready a ⟨[], []⟩ errorResponse true)).raise (.responseTimeout a.initiator a.addr k))
    (a := a) h (by simp) (by simp) (by simp [Slot.unlink])
  have hslot : ∀ j, (((s.putSlot k (.ready a ⟨[], []⟩ errorResponse true)).raise
      (.responseTimeout a.initiator a.addr k)).voidClaim a l).slot j =
      (s.putSlot k (.ready a ⟨[], []⟩ errorResponse true)).slot j := by
    intro j
    simp only [State.slot, h2, State.raise_fields]
  refine ⟨?_, ?_, h1, ?_, ?_⟩
  · rw [hslot]; simp [errorResponse]
  · intro j hj
    rw [hslot, State.slot_putSlot_of_ne _ _ _ _ hj]
  · rw [h3]
    exact State.raiseAll_queue_congr s (t := (s.putSlot k (.ready a ⟨[], []⟩ errorResponse true)))
      (by simp) (by simp) (.responseTimeout a.initiator a.addr k :: s.voidEvents a l)
  · rw [State.voidClaim_eq, State.raise_eq]
    rfl

end Sys2Proof.Machine
end

