-- ==== Sys2Proof/WellFormed.lean ====
section
/-! DEFINITION. Which commands the outside world can send: the shape of a request (R102), of a downstream response
(R105), and which code bytes can reach the two frame happenings that carry one (R162, R164).

Every argument value of a management command can be sent, so those are all well formed: a value that names nothing is
refused by the part itself (R169). -/

namespace Sys2Proof

/-- R102: a length of 0 to 4096 bytes, and for a WRITE one data byte and one byte enable per byte of the length. -/
def Request.wellShaped (r : Request) : Bool :=
  decide (r.length ≤ 4096) &&
  match r.kind with
  | .write => decide (r.data.length = r.length) && decide (r.enables.length = r.length)
  | .read => r.data.isEmpty && r.enables.isEmpty

/-- A command that the outside can send. -/
def Instr.wellFormed : Instr → Bool
  | .presentRequest r => r.wellShaped
  | .downstreamResponse _ st data => st == RespStatus.okay || data.isEmpty
  | .checkMismatch code => (Command.ofCode code).isSome
  | .unknownCommand code => (Command.ofCode code).isNone
  | .coldReset | .admission | .send | .deadlineExpiry _ | .forcedTimeout _ | .departure | .intervalTimerExpiry
  | .sweepStep | .purgeStep | .reownStep | .walkEndAborted | .drainLimit | .clearStep | .resumeStep | .selRise
  | .setWindow _ _ | .enableWindow _ _ | .readWindow _ | .setOutside _ | .setGate _ _ | .setGateConfig _ _ _ _ _
  | .loadBudget _ _ _ | .readGate _ | .readCounters _ _ | .insertEntry _ | .updateEntry _ _ | .deleteEntry _ _
  | .findEntry _ _ | .readEntry _ | .setTimers _ _ | .fetchEvents _ | .ackEvents _ | .status | .repeatReply | .abort
  | .purge _ _ _ | .reown _ _ _ | .sweepNow | .restart | .selFall | .sckCycle _ | .timerMillisecondBoundary => true

end Sys2Proof
end

