-- ==== Sys2Proof/Tests/Slice0.lean ====
section
/-! SUPPORT. Tests whose expected results are the manual's own tables and worked sequences; the checks of `WellFormed` on
ill-formed terms; and, for every statement with hypotheses, states and operands that meet them.

Kernel evaluations wait for the whole text before them, so these theorems are elaborated one after another. -/

set_option Elab.async false

namespace Sys2Proof.Tests

open Sys2Proof.Machine

/-! ### What only the outside could not send -/

/-- A write of `n` bytes. -/
def writeOf (i : Initiator) (a : Addr) (n : Nat) : Request :=
  { kind := .write, initiator := i, tag := 7, addr := a, length := n, data := List.replicate n 0xEE,
    enables := List.replicate n true }

/-- A read of `n` bytes. -/
def readOf (i : Initiator) (a : Addr) (n : Nat) : Request :=
  { kind := .read, initiator := i, tag := 9, addr := a, length := n, data := [], enables := [] }

theorem test_a_write_of_4096_bytes_can_be_presented :
    (Instr.presentRequest (writeOf 2 0x101A5040 4096)).wellFormed = true := by decide +kernel

theorem test_a_length_above_4096_cannot_be_presented :
    (Instr.presentRequest (readOf 2 0 4097)).wellFormed = false := by decide

theorem test_a_write_with_a_byte_missing_cannot_be_presented :
    (Instr.presentRequest { writeOf 2 0 4 with data := [1, 2, 3] }).wellFormed = false := by decide

theorem test_a_write_with_an_enable_missing_cannot_be_presented :
    (Instr.presentRequest { writeOf 2 0 4 with enables := [true] }).wellFormed = false := by decide

theorem test_a_read_with_write_data_cannot_be_presented :
    (Instr.presentRequest { readOf 2 0 4 with data := [1] }).wellFormed = false := by decide

theorem test_a_read_with_byte_enables_cannot_be_presented :
    (Instr.presentRequest { readOf 2 0 4 with enables := [true] }).wellFormed = false := by decide

theorem test_an_error_answer_carries_no_data :
    (Instr.downstreamResponse 3 .error [1]).wellFormed = false := by decide

theorem test_a_mismatch_of_an_unknown_code_cannot_occur :
    (Instr.checkMismatch 0x5A).wellFormed = false := by decide

theorem test_a_known_code_is_not_unknown :
    (Instr.unknownCommand 0x60).wellFormed = false := by decide

/-! ### Worked values of the manual -/

/-- R197, "FETCH_EVENTS with count 8". -/
theorem test_check_byte_of_fetch_events : crc8 [0x50, 0x08] = 0x34 := by decide +kernel

/-- R197: the remainder of the single byte 0x00 is 0. -/
theorem test_check_byte_of_done : crc8 [0x00] = 0x00 := by decide

/-- R198: 0x00, 0x5A and 0xFF name no command, and 0x50 with one byte spells FETCH_EVENTS. -/
theorem test_codes : Command.ofCode 0x00 = none ∧ Command.ofCode 0x5A = none ∧ Command.ofCode 0xFF = none
    ∧ Command.ofCode 0x50 = some .fetchEvents ∧ decodeArgs .fetchEvents [0x08] = some (.fetchEvents 8) := by decide

/-- R198: the table gives no row any bits. -/
theorem test_no_word_spells_a_command : decodeTableWord 16 0x5008 = none := by decide

/-- R2, "one bucket, five keys". -/
theorem test_buckets : (Key.mk 3 421).bucket = 149 ∧ (Key.mk 3 677).bucket = 149 ∧ (Key.mk 0 149).bucket = 149
    ∧ (Key.mk 1 133).bucket = 149 ∧ (Key.mk 2 181).bucket = 149 ∧ (Key.mk 3 421).ways = [596, 597, 598, 599] := by
  decide

/-- R199: the example of index 596. -/
theorem test_entry_image : ((Entry.claimed ⟨3, 421⟩
      { owner := 2, share := 0, strict := false, touched := true, age := 0, claimSlot := some 7 }).image 596).bytes
    = [0x58, 0x32, 0x00, 0x01, 0xA5, 0x00, 0x00, 0x07, 0x02, 0x54] := by decide

/-- R199: the example of record 41. -/
theorem test_record_image : (Record.mk 41 (.violation 2 (some 3) 0x101A5000 .write .notOwner false) 2 false).bytes
    = [0x00, 0x29, 0x01, 0x23, 0x86, 0x00, 0x00, 0x10, 0x1A, 0x50, 0x00, 0x00, 0x00, 0x00, 0x00, 0x02] := by decide

/-- R199: the cold window image. -/
theorem test_cold_window_image :
    Window.cold.image.bytes = [0x00, 12, 1, 0, 0, 0, 0, 0, 0, 0, 0, 0, 0, 0, 0] := by decide

/-- R54: the table of forms. -/
theorem test_forms : malformed (readOf 0 0xF80 128) = false ∧ malformed (readOf 0 0xF80 129) = true
    ∧ malformed (readOf 0 0xFFF 1) = false ∧ malformed (readOf 0 0xFFF 2) = true ∧ malformed (readOf 0 0 256) = false
    ∧ malformed (readOf 0 0 257) = true ∧ malformed (readOf 0 0x100 0) = true := by decide

/-- R73, "fill placement". -/
theorem test_fill_placement :
    (substitute .quiet 0xA1B2C3D4 (readOf 0 0x101A5000 8)).data = [0xA1, 0xB2, 0xC3, 0xD4, 0xA1, 0xB2, 0xC3, 0xD4]
    ∧ (substitute .quiet 0xA1B2C3D4 (readOf 0 0x101A5002 6)).data = [0xC3, 0xD4, 0xA1, 0xB2, 0xC3, 0xD4]
    ∧ (substitute .quiet 0xA1B2C3D4 (readOf 0 0x101A5007 1)).data = [0xD4]
    ∧ (substitute .quiet 0xA1B2C3D4 (readOf 0 0x101A5005 5)).data = [0xB2, 0xC3, 0xD4, 0xA1, 0xB2] := by
  decide +kernel

/-! ### The states of the worked sequences -/

/-- Window 3 of the Admission and Verdicts chapter: LEARN, QUIET, granule exponent 12. -/
def window3 : Window :=
  { enabled := true, base := 0x10000000, size := 4096, exponent := 12, mode := .learn, style := .quiet,
    fill := 0xA1B2C3D4, ageLimit := 2, learnStrict := false, fullAction := .passUnowned, reportLearning := true,
    reportRelease := true }

/-- Window 5 of the same chapter: FIXED, LOUD, granule exponent 16. -/
def window5 : Window :=
  { enabled := true, base := 0x20000000, size := 64, exponent := 16, mode := .fixed, style := .loud, fill := 0,
    ageLimit := 1, learnStrict := false, fullAction := .passUnowned, reportLearning := false, reportRelease := false }

/-- A confirmed claim of granule 421 of window 3. -/
def claimOf (owner : Initiator) (share : ShareSet) (strict touched : Bool) (age : Nat) (slot : Option SlotNo) : Entry :=
  .claimed ⟨3, 421⟩ { owner, share, strict, touched, age, claimSlot := slot }

/-- The windows, entries, gates and outside policy of "mixed verdicts". -/
def mixed : State :=
  let s := ((State.reset.putWindow 3 window3).putWindow 5 window5).putEntry 596 (claimOf 1 0b100 true false 0 none)
  let s := s.putEntry 332 (.pinned ⟨5, 3⟩ { owner := 2, share := 0, strict := false })
  let s := (s.putGate 2 { Gate.cold with tripThreshold := 2 }).putGate 4 { Gate.cold with state := .listen }
  let s := (s.putGate 6 { Gate.cold with privileged := true }).putGate 9 { Gate.cold with state := .shut }
  { s with outside := { action := .refuse, style := .quiet, fill := 0 } }

/-- A request alone in the lanes. -/
def present (s : State) (r : Request) : State := s.putLane r.initiator (some r)

/-- The state after one step that takes this command. -/
def after (s : State) (c : Instr) : State :=
  match step { s with pending := [c] } with
  | .next t => t
  | _ => s

/-- The state after a step that admits this request alone. -/
def presentAdmit (s : State) (r : Request) : State := after (present s r) .admission

/-- Rows a, d and g: the owner's read passes and touches; a write is refused NOT_OWNER and answered OKAY with no data; a
SHUT gate's read is answered with window 3's fill. -/
theorem test_mixed_verdicts :
    (presentAdmit mixed (readOf 1 0x101A5000 64)).entry 596 = claimOf 1 0b100 true true 0 none
    ∧ ((presentAdmit mixed (writeOf 2 0x101A5300 8)).queue.records.map Record.event)
        = [.violation 2 (some 3) 0x101A5300 .write .notOwner false]
    ∧ (presentAdmit mixed (readOf 9 0x101A5000 8)).slot 0
        = .ready (requestAccess (readOf 9 0x101A5000 8)) ⟨[], []⟩
            ⟨.okay, [0xA1, 0xB2, 0xC3, 0xD4, 0xA1, 0xB2, 0xC3, 0xD4]⟩ false := by decide +kernel

/-- Rows c and i: a LISTEN gate's refusal is audited, and an outside refusal carries no window. -/
theorem test_audited_and_outside :
    ((presentAdmit mixed (writeOf 4 0x101A5200 16)).queue.records.map Record.event)
        = [.violation 4 (some 3) 0x101A5200 .write .notOwner true]
    ∧ ((presentAdmit mixed (readOf 2 0x30000100 4)).queue.records.map Record.event)
        = [.violation 2 none 0x30000100 .read .outside false] := by decide +kernel

/-- "a claim voided by an error", step 1. -/
theorem test_a_first_write_claims :
    (presentAdmit (State.reset.putWindow 3 window3) (writeOf 2 0x101A5040 64)).entry 596
      = claimOf 2 0 false true 0 (some 0) := by decide +kernel

/-- "a restart with a silent slot": an OUTSTANDING write of initiator 6 on slot 5 whose claim is index 600. -/
def silent : State :=
  let s := State.reset.putSlot 5 (.outstanding
    { initiator := 6, tag := 1, kind := .write, addr := 0x101A6000, length := 16 } (some 600) (some 620))
  let s := s.putEntry 600 (.claimed ⟨3, 422⟩
    { owner := 6, share := 0, strict := false, touched := true, age := 0, claimSlot := some 5 })
  s.putReturnList 6 [5]

/-- "out-of-order answers, a refusal and a timeout", time 620: the events of an expiry, in order, and the freed entry. -/
theorem test_deadline_expiry :
    ((after silent (.deadlineExpiry 5)).queue.records.map Record.event)
      = [.responseTimeout 6 0x101A6000 5, .claimVoided 6 3 0x101A6000 600]
    ∧ (after silent (.deadlineExpiry 5)).entry 600 = .free := by decide +kernel

/-- R16: an OKAY answer confirms the claim. -/
theorem test_okay_confirms :
    (after silent (.downstreamResponse 5 .okay [])).entry 600 = .claimed ⟨3, 422⟩
      { owner := 6, share := 0, strict := false, touched := true, age := 0, claimSlot := none } := by decide +kernel

/-- R105: an OKAY answer to a read that carries fewer than L bytes gives 0 for each byte it lacks. -/
theorem test_short_read_data :
    memoryResponse { initiator := 0, tag := 0, kind := .read, addr := 0, length := 4 } .okay [1, 2]
      = ⟨.okay, [1, 2, 0, 0]⟩ := by decide

/-- "charges and a reload", write 3. -/
theorem test_charge_reloads :
    let j : Judgement := .start .pass none { Gate.cold with budgetOn := true, remaining := 88, next := 1000 }
    (j.budgetStep (writeOf 4 0 256)).1.gate.remaining = 1000
      ∧ (j.budgetStep (writeOf 4 0 256)).1.events = [.budgetReloaded 4 1000] := by decide +kernel

/-- "a claim ages out", time 401: the step that raises the age to the limit releases. -/
theorem test_release :
    let s := ((State.reset.putWindow 3 window3).putEntry 596 (claimOf 2 0 false false 1 none)).putSweep
      { Sweep.cold 0 with running := true, cursor := 596 }
    (after s .sweepStep).entry 596 = .free
      ∧ (after s .sweepStep).queue.records.map Record.event = [.released 3 596 421] := by decide +kernel

/-- "expiries during a long walk", times 2 and 5: an expiry sets sweep pending, and the end of the sweep starts the next. -/
theorem test_pending_sweep :
    let s := State.reset.putSweep { Sweep.cold 0 with interval := 2, running := true, cursor := 410, expiryDue := true }
    let t := State.reset.putSweep { Sweep.cold 0 with running := true, cursor := 1023, pending := true }
    (after s .intervalTimerExpiry).sweep.pending = true
      ∧ ((after t .sweepStep).sweep.running, (after t .sweepStep).sweep.cursor, (after t .sweepStep).sweep.pending)
          = (true, 0, false) := by decide +kernel

/-- "overlap": the four rows. -/
theorem test_overlap :
    let w0 : Window := { Window.cold with enabled := true, base := 0x10000000, size := 65536 }
    let w1 (base : Addr) (k size : Nat) : Window := { Window.cold with base := base, exponent := k, size := size }
    (w1 0x1FF00000 20 4).meets w0 = true ∧ (w1 0x20000000 20 4).meets w0 = false ∧ (w1 0 21 128).meets w0 = false
      ∧ (w1 0 21 129).meets w0 = true := by decide +kernel

/-- A SET_WINDOW image of this geometry. -/
def imageOf (base : Addr) (k : Byte) (size : BitVec 24) : WindowImage :=
  { enabled := false, mode := .learn, style := .quiet, learnStrict := false, fullAction := .passUnowned,
    reportLearning := false, reportRelease := false, exponent := k, ageLimit := 3, base := base, size := size, fill := 0 }

/-- The status of the reply a command fixed. -/
def statusOf (t : State) : Option Status := t.port.replyMade.map Reply.status

/-- "the end of the address space". -/
theorem test_end_of_space :
    statusOf (after State.reset (.setWindow 1 (imageOf 0 21 524288))) = some .done
    ∧ statusOf (after State.reset (.setWindow 1 (imageOf 0 21 524289))) = some .range
    ∧ statusOf (after State.reset (.setWindow 1 (imageOf 0xFFFFF00000 20 1))) = some .done
    ∧ statusOf (after State.reset (.setWindow 1 (imageOf 0xFFFFF00000 20 2))) = some .range
    ∧ statusOf (after State.reset (.setWindow 1 (imageOf 0xFFFFF00000 21 1))) = some .badArgument := by
  decide +kernel

/-- An INSERT_ENTRY image. -/
def entryOf (kind : EntryKind) (w : WindowNo) (owner : Initiator) (g : BitVec 24) (share : ShareSet) : EntryImage :=
  { kind := kind, strict := false, touched := false, pending := false, age := 0, window := w, owner := owner,
    granule := g, share := share, claimSlot := 0, index := 0 }

/-- Bucket 149 holding four entries, as "filling bucket 149" leaves it; windows 0 to 3 have 1024 granules. -/
def full149 : State :=
  let wide : Window := { Window.cold with size := 1024 }
  let s := (((State.reset.putWindow 0 wide).putWindow 1 wide).putWindow 2 wide).putWindow 3 window3
  let s := (s.putEntry 596 (claimOf 6 0 false true 0 none)).putEntry 597 (.pinned ⟨0, 149⟩ ⟨1, 0, false⟩)
  (s.putEntry 598 (.barred ⟨1, 133⟩)).putEntry 599 (.claimed ⟨3, 677⟩ ⟨2, 0, false, true, 0, none⟩)

/-- "filling bucket 149": the insert is refused BUCKET_FULL, and after DELETE_ENTRY (0, 149) way 1 is used again. -/
theorem test_filling_bucket_149 :
    statusOf (after full149 (.insertEntry (entryOf .pinned 2 4 181 0))) = some .bucketFull
    ∧ (after (after full149 (.deleteEntry 0 149)) (.insertEntry (entryOf .pinned 2 4 181 0))).entry 597
        = .pinned ⟨2, 181⟩ ⟨4, 0, false⟩ := by decide +kernel

/-- "coalescing and its limits": same granule merges, the next granule is appended. -/
theorem test_coalescing :
    let s := (State.reset.putWindow 3 window3).putQueue
      { records := [⟨41, .violation 2 (some 3) 0x101A5000 .write .notOwner false, 1, false⟩], nextSequence := 42,
        lostTally := 0 }
    (s.raise (.violation 2 (some 3) 0x101A5800 .write .notOwner false)).queue.records.map Record.repeats = [2]
    ∧ (s.raise (.violation 2 (some 3) 0x101A6000 .write .notOwner false)).queue.records.map Record.sequence
        = [41, 42] := by decide +kernel

/-- "overflow and acknowledgement", row 7 on a short queue: LOST takes the next number and the tally becomes 0. -/
theorem test_lost_record :
    let q : EventQueue := { records := [⟨204, .gateTripped 1, 1, true⟩, ⟨205, .gateTripped 2, 1, true⟩,
                                        ⟨206, .gateTripped 3, 1, false⟩], nextSequence := 207, lostTally := 2 }
    (after (State.reset.putQueue q) (.ackEvents 205)).queue
      = { records := [⟨206, .gateTripped 3, 1, false⟩, ⟨207, .lost 2, 1, false⟩], nextSequence := 208, lostTally := 0 } := by
  decide +kernel

/-- "recovering a cleared count": the reply shows the values taken before the clearing. -/
theorem test_cleared_count :
    let s := State.reset.putGate 5 { Gate.cold with admitted := 900, refused := 40, claims := 12 }
    (after s (.readCounters 5 1)).gate 5 = Gate.cold
      ∧ (after (after s (.readCounters 5 1)) .repeatReply).port.replyMade
          = some ⟨.done, [0x24, 0x00, 0, 0, 3, 0x84, 0, 0, 0, 40, 0, 0, 0, 12]⟩ := by decide +kernel

/-- "three cut frames", frame 1: five bits of a code. -/
theorem test_cut_frame :
    let s := State.reset.putPort { State.reset.port with selHigh := false, receiver := .code [false, true, false, true, false] }
    (after s .selRise).queue.records.map Record.event = [.frameFault .unknownLength] := by decide +kernel

/-- "PURGE against inserts and learning", row 7: the pending entry at 600 is freed and its slot's link becomes none. -/
theorem test_purge_frees_a_pending_entry :
    let s := silent.putLong { LongOp.cold with kind := .purge, cursor := 600, windowFilter := some 3,
                                               kindSet := some ⟨true, true, false⟩, affected := 3 }
    (after s .purgeStep).entry 600 = .free ∧ (after s .purgeStep).long.affected = 4
      ∧ ((after s .purgeStep).slot 5).link? = none := by decide +kernel

/-- "a restart with a silent slot", time 10.02: the clear step counts the CLAIMED entries and frees the orphans. -/
theorem test_clear_step :
    let s := (mixed.putSlot 9 (.orphaned { initiator := 0, tag := 0, kind := .read, addr := 0, length := 4 })).putLong
      { LongOp.cold with kind := .restart, stopTime := some 0 }
    (after s .clearStep).long.affected = 1 ∧ (after s .clearStep).slot 9 = .free
      ∧ (after s .clearStep).entry 332 = .pinned ⟨5, 3⟩ ⟨2, 0, false⟩ := by decide +kernel

/-! ### Hypotheses that can be met

One theorem for each statement with hypotheses, named after it: states and operands that meet them all, clause by clause, at
the ends of the ranges the clauses divide. -/

theorem admits_of {s : State} {i : Initiator} {r : Request} {k : SlotNo}
    (h : s.chosenLane = some i ∧ s.lane i = some r ∧ r.initiator = i ∧ s.freeSlot = some k) : s.Admits i r k :=
  ⟨h.1, h.2.1, h.2.2.1, h.2.2.2⟩

/-- No lane holds a request. -/
theorem met_AdmissionChoosesFirstEligibleLane (i : Initiator) : ¬ ∃ r, State.reset.lane i = some r := by
  rintro ⟨r, h⟩
  have : State.reset.lane i = none := Vec.get_replicate _ _
  rw [this] at h
  cases h

/-- Length 0, length 257, and a request of two bytes that crosses a page. -/
theorem met_AdmissionAnswersMalformed :
    (present mixed (readOf 1 0x100 0)).Admits 1 (readOf 1 0x100 0) 0 ∧ ¬ wellFormedRequest (readOf 1 0x100 0)
    ∧ (present mixed (readOf 1 0 257)).Admits 1 (readOf 1 0 257) 0 ∧ ¬ wellFormedRequest (readOf 1 0 257)
    ∧ (present mixed (writeOf 1 0xFFF 2)).Admits 1 (writeOf 1 0xFFF 2) 0 ∧ ¬ wellFormedRequest (writeOf 1 0xFFF 2) := by
  refine ⟨admits_of (by decide +kernel), ?_, admits_of (by decide +kernel), ?_, admits_of (by decide +kernel), ?_⟩ <;>
    simp only [wellFormedRequest] <;> decide

/-- The mixed state with window 3 in this mode. -/
def inMode (m : WindowMode) : State := mixed.putWindow 3 { window3 with mode := m }

/-- Window 3 with one claim of it in the table. -/
def lawfulTable : State := (State.reset.putWindow 3 window3).putEntry 596 (claimOf 2 0 false true 0 none)

theorem lawfulTable_window (w : WindowNo) : lawfulTable.window w = if w = 3 then window3 else .cold := by
  simp only [lawfulTable, State.window_putEntry, State.window_putWindow]
  split
  · rfl
  · exact Vec.get_replicate _ _

theorem lawfulTable_entry (e : EntryIndex) :
    lawfulTable.entry e = if e = 596 then claimOf 2 0 false true 0 none else .free := by
  simp only [lawfulTable, State.entry_putEntry, State.entry_putWindow]
  split
  · rfl
  · exact Vec.get_replicate _ _

theorem lawfulTable_windows : lawfulTable.WindowsLawful := by
  constructor
  · intro w
    rw [lawfulTable_window]
    split <;> constructor <;> decide
  · intro v w hvw hv hw
    rw [lawfulTable_window] at hv hw
    split at hv <;> split at hw <;> simp_all [Window.cold]

/-- The last address below and the first and last addresses of window 3; each mode; and a granule of each kind of entry. -/
theorem met_WindowAndTableStepsGiveTheVerdict :
    (mixed.findKey 0x0FFFFFFF = none ∧ mixed.outside.action = .refuse)
    ∧ (State.reset.findKey 0 = none ∧ State.reset.outside.action = .pass)
    ∧ ((inMode .opened).findKey 0x10000000 = some ⟨3, 0⟩ ∧ ((inMode .opened).window 3).mode = .opened)
    ∧ ((inMode .closed).findKey 0x10FFFFFF = some ⟨3, 4095⟩ ∧ ((inMode .closed).window 3).mode = .closed)
    ∧ (mixed.findKey 0x101A5000 = some ⟨3, 421⟩ ∧ (mixed.window 3).mode = .learn ∧ mixed.lookup ⟨3, 421⟩ = some 596
        ∧ mixed.entry 596 = claimOf 1 0b100 true false 0 none)
    ∧ ((mixed.window 5).mode = .fixed ∧ mixed.findKey 0x20030000 = some ⟨5, 3⟩ ∧ mixed.lookup ⟨5, 3⟩ = some 332
        ∧ mixed.entry 332 = .pinned ⟨5, 3⟩ ⟨2, 0, false⟩)
    ∧ (mixed.findKey 0x20050000 = some ⟨5, 5⟩ ∧ mixed.lookup ⟨5, 5⟩ = none)
    ∧ (full149.lookup ⟨1, 133⟩ = some 598 ∧ full149.entry 598 = .barred ⟨1, 133⟩)
    ∧ lawfulTable.WindowsLawful
    ∧ ((lawfulTable.window 3).enabled = true ∧ (lawfulTable.window 3).base.toNat ≤ (0x10000000 : Addr).toNat
        ∧ (0x10FFFFFF : Addr).toNat < (lawfulTable.window 3).base.toNat
            + (lawfulTable.window 3).size * 2 ^ (lawfulTable.window 3).exponent)
    ∧ lawfulTable.findKey 0x0FFFFFFF = none ∧ lawfulTable.findKey 0x11000000 = none := by
  refine ⟨by decide +kernel, by decide +kernel, by decide +kernel, by decide +kernel, by decide +kernel, by decide +kernel,
    by decide +kernel, by decide +kernel, lawfulTable_windows, ⟨by decide +kernel, by decide +kernel, by decide +kernel⟩,
    by decide +kernel⟩

/-- Window 3 is QUIET, window 5 LOUD, and the outside QUIET; each for a read of one byte, and a write. -/
theorem met_SubstituteFollowsTheStyle :
    ((mixed.window 3).style = .quiet ∧ (mixed.window 3).fill = 0xA1B2C3D4)
    ∧ ((mixed.window 5).style = .loud ∧ (mixed.window 5).fill = 0)
    ∧ (mixed.outside.style = .quiet ∧ mixed.outside.fill = 0)
    ∧ (readOf 1 3 1).kind = .read ∧ 0 < (readOf 1 3 1).length ∧ (writeOf 1 3 1).kind = .write := by decide +kernel

/-- A refusal of an OPEN gate, here the one that trips it at threshold 1. -/
theorem met_OpenGateEnforcesRefusal :
    let s := present (mixed.putGate 1 { Gate.cold with tripThreshold := 1 }) (writeOf 1 0x20030000 8)
    s.Admits 1 (writeOf 1 0x20030000 8) 0 ∧ wellFormedRequest (writeOf 1 0x20030000 8) ∧ (s.gate 1).state = .opened
      ∧ (s.gate 1).privileged = false
      ∧ (s.windowStep (writeOf 1 0x20030000 8) (s.gate 1)).verdict = .refuse .notOwner := by
  refine ⟨admits_of (by decide +kernel), ?_, ?_⟩
  · simp only [wellFormedRequest]; decide
  · decide +kernel

theorem met_ShutGateRefusesEverything :
    let s := present mixed (readOf 9 0x101A5000 256)
    s.Admits 9 (readOf 9 0x101A5000 256) 0 ∧ wellFormedRequest (readOf 9 0x101A5000 256) ∧ (s.gate 9).state = .shut := by
  refine ⟨admits_of (by decide +kernel), ?_, by decide +kernel⟩
  simp only [wellFormedRequest]; decide

theorem met_ListenGateAuditsRefusal :
    let s := present mixed (writeOf 4 0x101A5200 16)
    s.Admits 4 (writeOf 4 0x101A5200 16) 0 ∧ wellFormedRequest (writeOf 4 0x101A5200 16) ∧ (s.gate 4).state = .listen
      ∧ (s.gate 4).privileged = false
      ∧ (s.windowStep (writeOf 4 0x101A5200 16) (s.gate 4)).verdict = .refuse .notOwner := by
  refine ⟨admits_of (by decide +kernel), ?_, by decide +kernel⟩
  simp only [wellFormedRequest]; decide

/-- Gates that charge a write of 32 bytes: below, at and above the length that remains, with and without a reload, and with
nothing left but a reload. -/
def meteringGates : List Gate :=
  [(31, 0), (32, 0), (33, 0), (31, 1000), (32, 1000), (33, 1000), (0, 1000), (0, 1)].map fun p =>
    { Gate.cold with budgetOn := true, remaining := p.1, next := p.2 }

/-- The mixed state with this gate for initiator 1, and a request of it in the lane. -/
def gated (g : Gate) (r : Request) : State := present (mixed.putGate 1 g) r

/-- A privileged write to a granule of another; an owner's read, granted by index 596; and the owner's charged writes, from
OPEN and LISTEN gates. -/
theorem met_PassedAccessIsForwarded :
    (let s := present mixed (writeOf 6 0x101A5000 256)
     s.Admits 6 (writeOf 6 0x101A5000 256) 0 ∧ wellFormedRequest (writeOf 6 0x101A5000 256) ∧ (s.gate 6).privileged = true
      ∧ (s.gate 6).state ≠ .shut)
    ∧ (let s := present mixed (readOf 1 0x101A5000 64)
       s.Admits 1 (readOf 1 0x101A5000 64) 0 ∧ wellFormedRequest (readOf 1 0x101A5000 64)
      ∧ (s.gate 1).privileged = false ∧ (s.gate 1).state = .opened
      ∧ (s.windowStep (readOf 1 0x101A5000 64) (s.gate 1)).verdict = .pass
      ∧ (s.windowStep (readOf 1 0x101A5000 64) (s.gate 1)).granted = some 596 ∧ ¬ (s.gate 1).exhausted (readOf 1 0x101A5000 64))
    ∧ (∀ g ∈ meteringGates, ∀ x ∈ [GateState.opened, .listen],
      let s := gated { g with state := x } (writeOf 1 0x101A5000 32)
      s.Admits 1 (writeOf 1 0x101A5000 32) 0 ∧ (s.gate 1).privileged = false ∧ (s.gate 1).state = x
      ∧ (s.windowStep (writeOf 1 0x101A5000 32) (s.gate 1)).verdict = .pass
      ∧ (s.windowStep (writeOf 1 0x101A5000 32) (s.gate 1)).granted = some 596
      ∧ (s.gate 1).meters (writeOf 1 0x101A5000 32) = true ∧ ¬ (s.gate 1).exhausted (writeOf 1 0x101A5000 32))
    ∧ wellFormedRequest (writeOf 1 0x101A5000 32) := by
  refine ⟨⟨admits_of (by decide +kernel), ?_, by decide +kernel⟩, ⟨admits_of (by decide +kernel), ?_, ?_⟩, ?_, ?_⟩
  · simp only [wellFormedRequest]; decide
  · simp only [wellFormedRequest]; decide
  · simp only [Gate.exhausted]; decide +kernel
  · intro g hg x hx s
    simp only [Gate.exhausted]
    refine ⟨admits_of ?_, ?_⟩ <;> revert g x <;> decide +kernel
  · simp only [wellFormedRequest]; decide

/-- A first write in bucket 150, whose lowest way is index 600, from a gate that does not charge it and from two that
do, one of which reloads. -/
theorem met_LearningWriteClaimsGranule :
    (∀ g ∈ [Gate.cold, { Gate.cold with budgetOn := true, remaining := 33 },
        { Gate.cold with budgetOn := true, next := 1000 }],
      let s := gated g (writeOf 1 0x101A6000 32)
      s.Admits 1 (writeOf 1 0x101A6000 32) 0 ∧ (s.gate 1).privileged = false ∧ (s.gate 1).state = .opened
      ∧ ¬ (s.gate 1).exhausted (writeOf 1 0x101A6000 32) ∧ s.findKey 0x101A6000 = some ⟨3, 422⟩
      ∧ (s.window 3).mode = .learn ∧ s.lookup ⟨3, 422⟩ = none ∧ 600 ∈ (Key.mk 3 422).ways ∧ s.entry 600 = .free
      ∧ ∀ e' ∈ (Key.mk 3 422).ways, e' < 600 → s.entry e' ≠ .free)
    ∧ wellFormedRequest (writeOf 1 0x101A6000 32) := by
  refine ⟨?_, ?_⟩
  · intro g hg s
    simp only [Gate.exhausted]
    refine ⟨admits_of ?_, ?_⟩ <;> revert g <;> decide +kernel
  · simp only [wellFormedRequest]; decide

theorem full149_entry (e : EntryIndex) : full149.entry e =
    if e = 599 then .claimed ⟨3, 677⟩ ⟨2, 0, false, true, 0, none⟩ else if e = 598 then .barred ⟨1, 133⟩
    else if e = 597 then .pinned ⟨0, 149⟩ ⟨1, 0, false⟩ else if e = 596 then claimOf 6 0 false true 0 none
    else .free := by
  simp only [full149, State.entry_putEntry, State.entry_putWindow]
  congr 4
  exact Vec.get_replicate _ _

/-- No way of bucket 149 is FREE. -/
theorem full149_full : ∀ e ∈ [(596 : EntryIndex), 597, 598, 599], full149.entry e ≠ .free := by
  intro e he
  rw [full149_entry]
  fin_cases he <;> decide

/-- Granule 933 of window 3 falls in bucket 149, which is full; each full action, from an OPEN and from a LISTEN gate that
charges the write with the last byte it has. -/
theorem met_FullBucketTakesTheFullAction :
    let s (x : FullAction) (g : GateState) := present ((full149.putWindow 3 { window3 with fullAction := x }).putGate 1
      { Gate.cold with state := g, tripThreshold := 1, budgetOn := true, remaining := 1 }) (writeOf 1 0x103A5000 1)
    (∀ x ∈ [FullAction.passUnowned, .refuse], ∀ g ∈ [GateState.opened, .listen],
      (s x g).Admits 1 (writeOf 1 0x103A5000 1) 0 ∧ ((s x g).gate 1).state = g ∧ ((s x g).gate 1).privileged = false
      ∧ ¬ ((s x g).gate 1).exhausted (writeOf 1 0x103A5000 1) ∧ (s x g).findKey 0x103A5000 = some ⟨3, 933⟩
      ∧ ((s x g).window 3).mode = .learn ∧ ((s x g).window 3).fullAction = x ∧ (s x g).lookup ⟨3, 933⟩ = none
      ∧ ∀ e ∈ (Key.mk 3 933).ways, (s x g).entry e ≠ .free)
    ∧ wellFormedRequest (writeOf 1 0x103A5000 1) := by
  refine ⟨?_, ?_⟩
  · intro x hx g hg
    have full : ∀ e ∈ (Key.mk 3 933).ways, full149.entry e ≠ .free := full149_full
    simp only [Gate.exhausted]
    fin_cases hx <;> fin_cases hg <;>
      exact ⟨admits_of (by decide +kernel), by decide +kernel, by decide +kernel, by decide +kernel, by decide +kernel,
        by decide +kernel, by decide +kernel, by decide +kernel, full⟩
  · simp only [wellFormedRequest]; decide

/-- The judgement of a write that can pass, from a gate with this budget. -/
def judged (remaining next : Nat) (exhaust : ExhaustAction) (state : GateState) : Judgement :=
  .start .pass none { Gate.cold with budgetOn := true, remaining, next, exhaust, state }

/-- Each stage, at remaining 0, at one above the length, at the length, and at 1. -/
theorem met_BudgetStepRunsItsStages :
    (∀ j ∈ [judged 0 0 .hold .opened, judged 0 0 .hold .listen, judged 0 0 .refuse .opened, judged 0 1 .hold .opened,
        judged 257 0 .hold .opened, judged 256 0 .hold .opened, judged 1 1 .hold .opened],
      j.verdict = .pass ∧ j.gate.budgetOn = true ∧ (writeOf 4 0 256).kind = .write)
    ∧ (judged 0 0 .hold .opened).gate.exhaust = .hold ∧ (judged 0 0 .hold .opened).gate.state = .opened
    ∧ ¬ ((judged 0 0 .hold .listen).gate.exhaust = .hold ∧ (judged 0 0 .hold .listen).gate.state = .opened)
    ∧ 0 < (judged 0 1 .hold .opened).gate.next
    ∧ (writeOf 4 0 256).length < (judged 257 0 .hold .opened).gate.remaining
    ∧ (0 < (judged 256 0 .hold .opened).gate.remaining
        ∧ (judged 256 0 .hold .opened).gate.remaining ≤ (writeOf 4 0 256).length)
    ∧ (0 < (judged 1 1 .hold .opened).gate.remaining ∧ 0 < (judged 1 1 .hold .opened).gate.next) := by decide +kernel

/-- The owner's write, granted by index 596, finds its gate exhausted: OPEN with each exhaust action, and LISTEN. -/
theorem met_ExhaustedBudgetHoldsRefusesOrIsSoftened :
    (∀ x ∈ [ExhaustAction.hold, .refuse], ∀ g ∈ [GateState.opened, .listen],
      let s := gated { Gate.cold with budgetOn := true, exhaust := x, state := g, tripThreshold := 1 }
        (writeOf 1 0x101A5000 32)
      s.Admits 1 (writeOf 1 0x101A5000 32) 0 ∧ (s.gate 1).state = g ∧ (s.gate 1).exhaust = x
      ∧ (s.gate 1).privileged = false ∧ (s.gate 1).exhausted (writeOf 1 0x101A5000 32)
      ∧ (s.windowStep (writeOf 1 0x101A5000 32) (s.gate 1)).verdict = .pass
      ∧ (s.windowStep (writeOf 1 0x101A5000 32) (s.gate 1)).granted = some 596)
    ∧ wellFormedRequest (writeOf 1 0x101A5000 32) := by
  refine ⟨?_, ?_⟩
  · intro x hx g hg s
    simp only [Gate.exhausted]
    refine ⟨admits_of ?_, ?_⟩ <;> revert x g <;> decide +kernel
  · simp only [wellFormedRequest]; decide

/-- R66, R135: the owner's write that a LISTEN gate softens after a budget refusal goes to memory and leaves the entry that
granted it untouched; the same write from a gate that can charge it touches the entry (R12). -/
theorem test_softened_budget_refusal_does_not_touch :
    let t (n : Nat) := after (gated { Gate.cold with budgetOn := true, remaining := n, state := .listen }
      (writeOf 1 0x101A5000 32)) .admission
    (t 0).entry 596 = claimOf 1 0b100 true false 0 none
    ∧ (t 0).queue.records.map Record.event
        = [.budgetExhausted 1, .violation 1 (some 3) 0x101A5000 .write .budget true]
    ∧ (t 0).forwardQueue = [0] ∧ (t 33).entry 596 = claimOf 1 0b100 true true 0 none := by decide +kernel

theorem met_LaneHoldsThePresentedRequest :
    State.reset.lane 2 = none ∧ (present State.reset (readOf 2 0 4)).lane 2 = some (readOf 2 0 4) := by decide +kernel

/-- A slot's access. -/
def accessOf (i : Initiator) (kind : Access) : SlotAccess := { initiator := i, tag := 3, kind, addr := 0x101A6000, length := 16 }

/-- A QUEUED slot 2 at the head of the forward queue. -/
def queued : State := (State.reset.putSlot 2 (.queued (accessOf 3 .read) ⟨[], []⟩ none)).putForward [2]

/-- RESTART running since time 0, with drain forcing as given. -/
def restartOf (s : State) (forcing : Bool) : State :=
  s.putLong { LongOp.cold with kind := .restart, stopTime := some 0, drainForcing := forcing }

theorem met_SendHandsOnTheHead :
    queued.forwardQueue = [2] ∧ queued.slot 2 = .queued (accessOf 3 .read) ⟨[], []⟩ none
      ∧ ¬ (queued.long.kind = .restart ∧ queued.long.drainForcing = true) ∧ State.reset.forwardQueue = [] := by
  decide +kernel

theorem silent_linkAgrees : silent.linkAgrees 5 (some 600) := by
  intro e he
  cases he
  exact ⟨⟨3, 422⟩, ⟨6, 0, false, true, 0, some 5⟩, by decide +kernel, rfl⟩

/-- The claiming write of `silent`; and slots of every other state. -/
theorem met_ResponsesReachTheirSlots :
    (silent.slot 5 = .outstanding { initiator := 6, tag := 1, kind := .write, addr := 0x101A6000, length := 16 } (some 600)
        (some 620) ∧ silent.linkAgrees 5 (some 600))
    ∧ (State.reset.putSlot 31 (.ready (accessOf 1 .read) ⟨[], []⟩ errorResponse true)).slot 31
        = .ready (accessOf 1 .read) ⟨[], []⟩ errorResponse true
    ∧ (State.reset.putSlot 31 (.orphaned (accessOf 1 .read))).slot 31 = .orphaned (accessOf 1 .read)
    ∧ State.reset.slot 0 = .free ∧ queued.slot 2 = .queued (accessOf 3 .read) ⟨[], []⟩ none
    ∧ (State.reset.putSlot 31 (.ready (accessOf 1 .read) ⟨[], []⟩ errorResponse false)).slot 31
        = .ready (accessOf 1 .read) ⟨[], []⟩ errorResponse false :=
  ⟨⟨by decide +kernel, silent_linkAgrees⟩, by decide +kernel⟩

/-- `silent` beside an OUTSTANDING read on slot 9 whose deadline is the earlier time 619. -/
def hurried : State := silent.putSlot 9 (.outstanding (accessOf 1 .read) none (some 619))

/-- The slots that await memory there. -/
theorem silent_slot5 : silent.slot 5 = .outstanding
    { initiator := 6, tag := 1, kind := .write, addr := 0x101A6000, length := 16 } (some 600) (some 620) := by decide +kernel

theorem hurried_slots : hurried.slot 9 = .outstanding (accessOf 1 .read) none (some 619)
    ∧ hurried.slot 5 = silent.slot 5 := by decide +kernel

/-- A later time that the time base can reach has nothing due before it. -/
theorem due_before {s : State} {t : Nat} (later : s.now < t) (reached : s.canReach t = true) : s.NothingDueBefore t :=
  ((s.canReach_iff t).1 reached).resolve_left (Nat.not_le.2 later)

/-- Nothing that the time base makes happen falls due before time 620 in `silent`, nor before 619 beside it. -/
theorem silent_due : silent.NothingDueBefore 620 ∧ hurried.NothingDueBefore 619 ∧ ¬ hurried.NothingDueBefore 620 := by
  refine ⟨due_before (by decide +kernel) (by decide +kernel), due_before (by decide +kernel)
    (by decide +kernel), fun h => ?_⟩
  exact absurd (h.deadlines 9 _ _ 619 hurried_slots.1) (by decide)

/-- A deadline the time base comes to; one it stands past; one behind an earlier deadline; and no deadline. -/
theorem met_DeadlineExpiryTimesTheSlotOut :
    (silent.slot 5 = .outstanding { initiator := 6, tag := 1, kind := .write, addr := 0x101A6000, length := 16 } (some 600)
        (some 620) ∧ silent.linkAgrees 5 (some 600) ∧ silent.NothingDueBefore 620)
    ∧ (620 ≤ ({ silent with now := 620 } : State).now ∧ ({ silent with now := 620 } : State).linkAgrees 5 (some 600))
    ∧ ((∃ a link, hurried.slot 5 = .outstanding a link (some 620)) ∧ hurried.now < 620 ∧ ¬ hurried.NothingDueBefore 620)
    ∧ ∀ a link d, State.reset.slot 0 ≠ .outstanding a link (some d) :=
  ⟨⟨by decide +kernel, silent_linkAgrees, silent_due.1⟩, ⟨by decide +kernel, silent_linkAgrees⟩,
    ⟨⟨_, _, hurried_slots.2.trans silent_slot5⟩, by decide +kernel, silent_due.2.2⟩, fun a l d h => by
    have : State.reset.slot 0 = .free := Vec.get_replicate _ _
    rw [this] at h
    cases h⟩

/-- R118: a later deadline does not pass an earlier one, which is taken in its own tick; its answer then comes late. -/
theorem test_deadlines_in_turn :
    after hurried (.deadlineExpiry 5) = hurried
    ∧ (after hurried (.deadlineExpiry 9)).now = 619
    ∧ (after (after hurried (.deadlineExpiry 9)) (.deadlineExpiry 5)).now = 620
    ∧ (after (after hurried (.deadlineExpiry 9)) (.downstreamResponse 9 .okay [])).queue.records.map Record.event
        = [.responseTimeout 1 0x101A6000 9, .lateResponse 9] := by decide +kernel

/-- RESTART with a QUEUED slot, its interval timer at this millisecond boundary. -/
def draining (boundary : Nat) : State := (restartOf queued false).putSweep { Sweep.cold 0 with boundary }

/-- A drain limit the time base comes to, one it stands past, and one behind a millisecond boundary; a complete drain; and
drain forcing on with an OUTSTANDING and with a QUEUED slot. -/
theorem met_DrainLimitForcesTimeouts :
    (∀ b ∈ [9000, 8999], (draining b).long.kind = .restart ∧ (draining b).long.stopTime = some 0
      ∧ (draining b).long.drainForcing = false ∧ (draining b).slot 2 = .queued (accessOf 3 .read) ⟨[], []⟩ none
      ∧ (draining b).now = 0)
    ∧ (draining 9000).NothingDueBefore 10000 ∧ ¬ (draining 8999).NothingDueBefore 10000
    ∧ 0 + 10000 ≤ ({ draining 8999 with now := 10000 } : State).now
    ∧ (∀ k, (restartOf State.reset false).slot k = .free)
    ∧ ((restartOf silent true).long.drainForcing = true ∧ (restartOf silent true).linkAgrees 5 (some 600))
    ∧ ((restartOf queued true).long.drainForcing = true ∧ (restartOf queued true).forwardQueue = [2]
      ∧ (restartOf queued true).linkAgrees 2 none) :=
  ⟨by decide +kernel, due_before (by decide +kernel) (by decide +kernel),
    fun h => absurd h.boundary (by decide +kernel), by decide +kernel, fun _ => Vec.get_replicate _ _, ⟨rfl, silent_linkAgrees⟩, rfl, rfl,
    fun e he => nomatch he⟩

/-- The pointer at initiator 2, and only initiator 1 ready: the search wraps through fifteen others. -/
def wrapped : State :=
  ((State.reset.putSlot 9 (.ready (accessOf 1 .write) ⟨[], []⟩ ⟨.okay, []⟩ false)).putReturnList 1
    [9]).putResponsePointer 2

theorem met_DepartureServesFirstReadyInitiator :
    (wrapped.returnList 1 = [9] ∧ wrapped.slot 9 = .ready (accessOf 1 .write) ⟨[], []⟩ ⟨.okay, []⟩ false
      ∧ ∀ j : Initiator, (j - wrapped.responsePointer).val < ((1 : Initiator) - wrapped.responsePointer).val →
        wrapped.returnList j = [])
    ∧ ∀ i, State.reset.returnList i = [] := by decide +kernel

/-- A boundary the time base comes to, one it stands at, and one behind a deadline; an expiry; and none. -/
theorem met_IntervalTimerCountsAndExpires :
    let due := State.reset.putSweep { Sweep.cold 0 with interval := 1, elapsed := 1, expiryDue := true }
    State.reset.NothingDueBefore 1000 ∧ 1000 ≤ ({ State.reset with now := 1000 } : State).now
    ∧ (silent.now < silent.sweep.boundary + 1000 ∧ ¬ silent.NothingDueBefore (silent.sweep.boundary + 1000))
    ∧ due.sweep.expiryDue = true ∧ due.long.kind ≠ .restart ∧ State.reset.sweep.expiryDue = false := by
  refine ⟨due_before (by decide +kernel) (by decide +kernel), by decide +kernel, ⟨by decide +kernel, fun h => ?_⟩, by decide +kernel⟩
  exact absurd (h.deadlines 5 _ _ 620 silent_slot5) (by decide)

/-- Nothing due, the drain limit, a forced timeout, a deadline, an expiry and a millisecond boundary, each in its tick. -/
theorem met_StepTakesFrontCommandOrTicks :
    { State.reset with pending := [.send, .admission] }.pending = [.send, .admission]
    ∧ (let s := { restartOf queued false with now := 10000 }
       s.pending = [] ∧ s.long.kind = .restart ∧ s.long.stopTime = some 0 ∧ 0 + 10000 ≤ s.now
      ∧ s.long.drainForcing = false ∧ s.slot 2 = .queued (accessOf 3 .read) ⟨[], []⟩ none)
    ∧ (let s := { restartOf silent true with now := 10000 }
       s.long.kind = .restart ∧ s.long.stopTime = some 0 ∧ s.long.drainForcing = true ∧ 0 + 10000 ≤ s.now
      ∧ (∃ a link d, s.slot 5 = .outstanding a link d) ∧ ∀ j : SlotNo, j < 5 → s.slot j = .free)
    ∧ (let s := { silent with now := 620 }
       s.long.kind ≠ .restart ∧ (∃ a link, s.slot 5 = .outstanding a link (some 620)) ∧ 620 ≤ s.now
      ∧ ∀ j : SlotNo, j < 5 → s.slot j = .free)
    ∧ (let s := State.reset.putSweep { Sweep.cold 0 with interval := 1, elapsed := 1, expiryDue := true }
       (∀ k, s.slot k = .free) ∧ s.sweep.expiryDue = true ∧ s.long.kind ≠ .restart ∧ s.sweep.boundary ≤ s.now)
    ∧ (let s := { State.reset with now := 1000 }
       (∀ k, s.slot k = .free) ∧ s.sweep.expiryDue = false ∧ s.long.kind ≠ .restart ∧ s.sweep.boundary + 1000 ≤ s.now)
    ∧ (∀ k, State.reset.slot k = .free) ∧ State.reset.sweep.expiryDue = false ∧ State.reset.long.kind ≠ .restart
    ∧ State.reset.now < State.reset.sweep.boundary + 1000 :=
  ⟨rfl, by decide +kernel, ⟨rfl, rfl, rfl, by decide +kernel, ⟨_, _, _, silent_slot5⟩, by decide +kernel⟩,
    ⟨by decide +kernel, ⟨_, _, silent_slot5⟩, by decide +kernel, by decide +kernel⟩, ⟨fun _ => Vec.get_replicate _ _, by decide +kernel⟩,
    ⟨fun _ => Vec.get_replicate _ _, by decide +kernel⟩, fun _ => Vec.get_replicate _ _, by decide +kernel⟩

/-- A tick takes what is due at the present time, and moves the time on only when nothing is. -/
theorem test_ticks :
    (match step State.reset with | .next t => t.now | _ => 0) = 1
    ∧ (match step { silent with now := 620 } with | .next t => (t.now, t.slot 5) | _ => (0, .free))
        = (620, .ready { initiator := 6, tag := 1, kind := .write, addr := 0x101A6000, length := 16 } ⟨[], []⟩
            errorResponse true) := by decide +kernel

/-- A sweep at this cursor. -/
def sweepAt (n : Nat) (s : State) : State := s.putSweep { Sweep.cold 0 with running := true, cursor := n }

/-- Indexes 0, 1022 and 1023, and a CLAIMED entry of each sort at the cursor. -/
theorem met_SweepStepAgesTheEntry :
    (∀ e : EntryIndex, (sweepAt e.val State.reset).sweep.running = true ∧ (sweepAt e.val State.reset).sweep.cursor = e.val)
    ∧ (sweepAt 596 (mixed.putEntry 596 (claimOf 1 0 false true 0 (some 3)))).entry 596 = claimOf 1 0 false true 0 (some 3)
    ∧ (sweepAt 596 (mixed.putEntry 596 (claimOf 1 0 false true 0 none))).entry 596 = claimOf 1 0 false true 0 none
    ∧ (sweepAt 596 (mixed.putEntry 596 (claimOf 1 0 false false 1 none))).entry 596 = claimOf 1 0 false false 1 none :=
  ⟨fun _ => ⟨rfl, rfl⟩, by decide +kernel⟩

theorem met_SweepEndsAtTheLastIndex :
    (sweepAt 1023 State.reset).sweep.running = true ∧ (sweepAt 1023 State.reset).sweep.cursor = 1023 := ⟨rfl, rfl⟩

/-- A PURGE of window 3's CLAIMED and PINNED entries at this cursor. -/
def purgeAt (n : Nat) (s : State) : State :=
  s.putLong { LongOp.cold with kind := .purge, cursor := n, windowFilter := some 3, kindSet := some ⟨true, true, false⟩ }

theorem met_PurgeStepFreesMatches :
    let s := purgeAt 596 mixed
    s.long.kind = .purge ∧ s.long.abortRequested = false ∧ s.long.cursor = (596 : EntryIndex).val
      ∧ s.long.kindSet = some ⟨true, true, false⟩ ∧ (purgeAt 1023 mixed).long.cursor = (1023 : EntryIndex).val := by
  decide +kernel

/-- A REOWN from initiator 1 to 2 at this cursor. -/
def reownAt (n : Nat) (s : State) : State :=
  s.putLong { LongOp.cold with kind := .reown, cursor := n, source := some 1, target := some 2 }

theorem met_ReownStepMovesOwnership :
    let s := reownAt 596 mixed
    s.long.kind = .reown ∧ s.long.abortRequested = false ∧ s.long.cursor = (596 : EntryIndex).val
      ∧ s.long.source = some 1 ∧ s.long.target = some 2 ∧ s.entry 596 = claimOf 1 0b100 true false 0 none
      ∧ (reownAt 596 (mixed.putEntry 596 (claimOf 1 0 false true 0 (some 3)))).entry 596 = claimOf 1 0 false true 0 (some 3)
      ∧ (reownAt 597 full149).entry 597 = .pinned ⟨0, 149⟩ ⟨1, 0, false⟩
      ∧ (reownAt 1023 full149).entry 1023 = .free := by decide +kernel

theorem met_RestartClearsAndResumes :
    ((restartOf State.reset false).long.kind = .restart ∧ (restartOf State.reset false).long.cleared = false
      ∧ ∀ k, (restartOf State.reset false).slot k = .free)
    ∧ (State.reset.putLong { LongOp.cold with kind := .restart, stopTime := some 0, cleared := true }).long.cleared = true :=
  ⟨⟨rfl, rfl, fun _ => Vec.get_replicate _ _⟩, rfl⟩

theorem met_RestartFencesCommands :
    frameOf (.setGate 1 3) = some (.setGate, [1, 3]) ∧ (restartOf State.reset false).long.kind = .restart
      ∧ (restartOf State.reset false).canTake (.command (.setGate 1 3)) = true := by decide

/-- The first bytes that name nothing, and FETCH_EVENTS 0 and 9 while RESTART runs. -/
theorem met_BadArgumentsAreRefused :
    (frameOf (.setGate 16 0) = some (.setGate, [16, 0]) ∧ State.reset.long.kind ≠ .restart
      ∧ State.reset.canTake (.command (.setGate 16 0)) = true ∧ badArguments (.setGate 16 0))
    ∧ badArguments (.setGate 15 4) ∧ badArguments (.fetchEvents 0) ∧ badArguments (.fetchEvents 9)
    ∧ (restartOf State.reset false).canTake (.command (.fetchEvents 9)) = true := by
  simp only [badArguments]
  decide

/-- The port with SEL low and this receiver. -/
def receiving (r : Receiver) : State := State.reset.putPort { State.reset.port with selHigh := false, receiver := r }

/-- REPEAT_REPLY is the only frame held, and the receiver awaits its reply. -/
def repeating : State :=
  { receiving (.replying (.filler 1 3 none)) with passedOn := [.command .repeatReply] }

/-- A command alone; one that a receiver awaits, with and without another frame held after it; and one that is not the
oldest frame held. -/
theorem met_RefusedCommandChangesNothing :
    frameOf .abort = some (.abort, []) ∧ exec .abort State.reset = .next (after State.reset .abort)
      ∧ State.reset.canTake (.command .abort) = true
      ∧ (frameOf .repeatReply = some (.repeatReply, []) ∧ exec .repeatReply repeating = .next (after repeating .repeatReply)
        ∧ repeating.canTake (.command .repeatReply) = true)
      ∧ { State.reset with passedOn := [.command .status] }.canTake (.command .abort) = false :=
  ⟨rfl, rfl, rfl, ⟨rfl, rfl, rfl⟩, rfl⟩

theorem admissible_of {m : WindowImage}
    (h : (12 ≤ m.exponent.toNat ∧ m.exponent.toNat ≤ 21) ∧ (1 ≤ m.size.toNat ∧ m.size.toNat ≤ 1048576)
      ∧ (1 ≤ m.ageLimit.toNat ∧ m.ageLimit.toNat ≤ 7) ∧ m.base.toNat % 2 ^ m.exponent.toNat = 0) : AdmissibleImage m :=
  ⟨h.1, h.2.1, h.2.2.1, h.2.2.2⟩

/-- A window that ends at 2^40 and one that ends one granule past it; and a changed geometry of an enabled window. -/
theorem met_SetWindowWritesTheRecord :
    (State.reset.readyFor (.setWindow (indexByte 1) (imageOf 0xFFFFF00000 20 1)) ∧ AdmissibleImage (imageOf 0xFFFFF00000 20 1))
    ∧ (State.reset.readyFor (.setWindow (indexByte 1) (imageOf 0xFFFFF00000 20 2)) ∧ AdmissibleImage (imageOf 0xFFFFF00000 20 2))
    ∧ (mixed.readyFor (.setWindow (indexByte 3) (imageOf 0 12 1)) ∧ AdmissibleImage (imageOf 0 12 1)
      ∧ (mixed.window 3).enabled = true) :=
  ⟨⟨⟨rfl, rfl⟩, admissible_of (by decide +kernel)⟩, ⟨⟨rfl, rfl⟩, admissible_of (by decide +kernel)⟩, ⟨rfl, rfl⟩,
    admissible_of (by decide +kernel), by decide +kernel⟩

/-- Size 0; a range that meets window 3 in its last granule; and one that begins where window 3 ends. -/
theorem met_EnableWindowSetsTheFlag :
    let s (base : Addr) (size : Nat) := mixed.putWindow 1 { Window.cold with base := base, size := size }
    (∀ on, State.reset.readyFor (.enableWindow (indexByte 1) (choiceByte on))) ∧ (State.reset.window 1).size = 0
    ∧ (((s 0x10FFF000 1).window 1).covers 0x10FFF000 = true ∧ ((s 0x10FFF000 1).window 3).covers 0x10FFF000 = true
      ∧ ((s 0x10FFF000 1).window 3).enabled = true)
    ∧ (0 < ((s 0x11000000 1).window 1).size ∧ ((s 0x11000000 1).window 1).meets window3 = false
      ∧ ((s 0x11000000 1).window 1).meets window5 = false) :=
  ⟨fun _ => ⟨rfl, rfl⟩, by decide +kernel⟩

/-- Every command can be taken where none is held and no RESTART runs. -/
theorem reset_readyFor (i : Instr) : State.reset.readyFor i := ⟨rfl, rfl⟩

theorem met_OutsideAndTimersAreWritten :
    State.reset.readyFor (.setOutside ⟨.refuse, .loud, 0xFFFFFFFF⟩) ∧ State.reset.readyFor (.setTimers 0xFFFF 0xFFFF) :=
  ⟨reset_readyFor _, reset_readyFor _⟩

theorem met_GateCommandsReachTheirFields :
    State.reset.readyFor (.setGate (indexByte 15) GateState.shut.code)
      ∧ State.reset.readyFor (.setGateConfig (indexByte 15) (choiceByte true) 255 (choiceByte true) (exhaustByte .hold))
      ∧ State.reset.readyFor (.loadBudget (indexByte 15) 0xFFFFFFFF 0)
      ∧ State.reset.readyFor (.readCounters (indexByte 15) (choiceByte true)) :=
  ⟨reset_readyFor _, reset_readyFor _, reset_readyFor _, reset_readyFor _⟩

theorem met_ReadingCommandsReplyAndChangeNothing :
    State.reset.readyFor (.readWindow (indexByte 15)) ∧ State.reset.readyFor (.readGate (indexByte 15))
      ∧ (mixed.readyFor (.findEntry (indexByte 3) 421) ∧ mixed.lookup ⟨3, 421⟩ = some 596)
      ∧ ((0xFFFFF : BitVec 24).toNat ≤ 1048575 ∧ mixed.lookup ⟨15, 1048575⟩ = none)
      ∧ (restartOf State.reset false).canTake (.command .status) = true :=
  ⟨reset_readyFor _, reset_readyFor _, ⟨⟨rfl, rfl⟩, by decide +kernel⟩, by decide +kernel⟩

theorem met_ReadEntryShowsTheEntry :
    State.reset.readyFor (.readEntry 1023) ∧ (1023 : BitVec 16).toNat = (1023 : EntryIndex).val
      ∧ State.reset.readyFor (.readEntry 1024) ∧ 1023 < (1024 : BitVec 16).toNat :=
  ⟨reset_readyFor _, rfl, reset_readyFor _, by decide⟩

/-- No way of bucket 149 holds (2, 181). -/
theorem full149_lacks : ∀ e ∈ [(596 : EntryIndex), 597, 598, 599], (full149.entry e).key? ≠ some ⟨2, 181⟩ := by
  intro e he
  rw [full149_entry]
  fin_cases he <;> decide

/-- No way of bucket 150 comes before entry 600. -/
theorem full149_before600 : ∀ e' ∈ [(600 : EntryIndex), 601, 602, 603], e' < 600 → full149.entry e' ≠ .free := by
  intro e he h
  fin_cases he <;> exact absurd h (by decide)

/-- The first granule past window 3 and its last; a key that is listed; a full bucket; and a free one. -/
theorem met_InsertEntryPlacesTheKey :
    (∀ m, full149.readyFor (.insertEntry m)) ∧ ¬ (4096 < (full149.window 3).size) ∧ 4095 < (full149.window 3).size
    ∧ (∃ e ∈ (Key.mk 3 677).ways, (full149.entry e).key? = some ⟨3, 677⟩)
    ∧ ((∀ e ∈ (Key.mk 2 181).ways, (full149.entry e).key? ≠ some ⟨2, 181⟩)
      ∧ ∀ e ∈ (Key.mk 2 181).ways, full149.entry e ≠ .free)
    ∧ (600 ∈ (Key.mk 3 422).ways ∧ full149.entry 600 = .free
      ∧ ∀ e' ∈ (Key.mk 3 422).ways, e' < 600 → full149.entry e' ≠ .free) :=
  ⟨fun _ => ⟨rfl, rfl⟩, by decide +kernel, by decide +kernel, ⟨599, by decide +kernel, by decide +kernel⟩,
    ⟨full149_lacks, full149_full⟩, by decide +kernel, by decide +kernel, full149_before600⟩

theorem met_UpdateAndDeleteReachTheMatchingEntry :
    (∀ m c, full149.readyFor (.updateEntry m c)) ∧ (∀ w g, full149.readyFor (.deleteEntry w g))
    ∧ full149.lookup ⟨3, 422⟩ = none ∧ (full149.lookup ⟨1, 133⟩ = some 598 ∧ full149.entry 598 = .barred ⟨1, 133⟩)
    ∧ (silent.lookup ⟨3, 422⟩ = some 600 ∧ (silent.entry 600).claimSlot? = some 5)
    ∧ (full149.lookup ⟨3, 421⟩ = some 596 ∧ full149.entry 596 = claimOf 6 0 false true 0 none)
    ∧ (full149.lookup ⟨0, 149⟩ = some 597 ∧ full149.entry 597 = .pinned ⟨0, 149⟩ ⟨1, 0, false⟩) :=
  ⟨fun _ _ => ⟨rfl, rfl⟩, fun _ _ => ⟨rfl, rfl⟩, by decide +kernel⟩

/-- A queue of `n` records of one kind, the first of them fetched or not. -/
def queueOf (n : Nat) (fetched : Bool) (tally : Nat) : EventQueue :=
  { records := (List.range n).map fun k => ⟨BitVec.ofNat 16 k, .malformed 2 0x1000 0, 1, fetched && k == 0⟩
    nextSequence := BitVec.ofNat 16 n, lostTally := tally }

/-- A merge, an append at 63 records, and a loss at 64. -/
theorem met_EventsSettleInTheQueue :
    (State.reset.putQueue (queueOf 64 false 0)).coalesces (.malformed 2 0x1FFF 300) = true
    ∧ ((State.reset.putQueue (queueOf 63 false 0)).coalesces (.gateTripped 2) = false
      ∧ (queueOf 63 false 0).records.length < 64)
    ∧ ((State.reset.putQueue (queueOf 64 false 0)).coalesces (.gateTripped 2) = false
      ∧ 64 ≤ (queueOf 64 false 0).records.length) := by decide +kernel

/-- One record, fetched: lawful, and acknowledged through it. -/
theorem met_FetchMarksAndAckRemoves :
    (1 ≤ (1 : Byte).toNat ∧ (8 : Byte).toNat ≤ 8 ∧ State.reset.canTake (.command (.fetchEvents 8)) = true)
    ∧ ((State.reset.putQueue (queueOf 1 true 0)).readyFor (.ackEvents 0) ∧ (queueOf 1 true 0).Lawful)
    ∧ (queueOf 1 true 0).records = [] ++ ⟨0, .malformed 2 0x1000 0, 1, true⟩ :: [] := by
  refine ⟨by decide, ⟨⟨rfl, rfl⟩, ⟨by decide, ?_, by decide, by decide, ?_, by decide⟩⟩, by decide⟩
  · intro n r h
    match n with
    | 0 => cases h; rfl
    | n + 1 => simp [queueOf] at h
  · intro n r h
    match n with
    | 0 => cases h; exact fun _ => ⟨by decide, fun m r' hm => absurd hm (Nat.not_lt_zero m)⟩
    | n + 1 => simp [queueOf] at h

/-- No frame held; the only one, whose receiver awaits its reply; and one before another frame. -/
theorem met_RepeatReplyReturnsTheLastReply :
    State.reset.canTake (.command .repeatReply) = true
    ∧ (repeating.canTake (.command .repeatReply) = true
      ∧ repeating.port.receiver = .replying (.filler 1 3 none) ∧ repeating.passedOn.drop 1 = [])
    ∧ { repeating with passedOn := [.command .repeatReply, .command .status] }.canTake (.command .repeatReply) = true :=
  ⟨rfl, ⟨rfl, rfl, rfl⟩, rfl⟩

/-- R163, R167: after cold reset the first REPEAT_REPLY hands NO_REPLY to the receiver that awaits it, and stores nothing. -/
theorem test_no_reply_reaches_the_receiver :
    (after repeating .repeatReply).port.receiver = .replying (.filler 1 3 (some ⟨.noReply, []⟩))
    ∧ (after repeating .repeatReply).port.lastReply = none := by decide +kernel

/-- R128, R130: a cold reset leaves no expiry to take, and the next millisecond boundary is 1000 µs away. -/
theorem test_cold_reset_restarts_the_timer :
    let s := { State.reset.putSweep { Sweep.cold 0 with interval := 1, elapsed := 1, expiryDue := true } with now := 7 }
    (after s .coldReset).sweep.expiryDue = false ∧ (after s .coldReset).sweep.boundary = 7 := by decide +kernel

theorem met_AbortEndsTheWalk :
    (∀ k, (State.reset.putLong { LongOp.cold with kind := k }).long.kind = k)
    ∧ (State.reset.readyFor .abort ∧ (purgeAt 3 State.reset).readyFor .abort ∧ (reownAt 3 State.reset).readyFor .abort)
    ∧ ((purgeAt 3 State.reset).putLong { (purgeAt 3 State.reset).long with abortRequested := true }).long.abortRequested = true :=
  ⟨fun _ => rfl, ⟨⟨rfl, rfl⟩, ⟨rfl, rfl⟩, ⟨rfl, rfl⟩⟩, rfl⟩

theorem met_LongCommandsAreAcceptedOneAtATime :
    (KindSet.mk true false false ≠ ⟨false, false, false⟩ ∧ (0 : Initiator) ≠ 15)
    ∧ (∀ i, State.reset.readyFor i ∧ (purgeAt 3 State.reset).readyFor i) ∧ State.reset.long.kind = .none
    ∧ (purgeAt 3 State.reset).long.kind ≠ .none :=
  ⟨by decide, fun _ => ⟨⟨rfl, rfl⟩, ⟨rfl, rfl⟩⟩, rfl, by decide⟩

theorem met_FrameReceiverFollowsTheLines :
    (State.reset.port.selHigh = true ∧ State.reset.port.receiver = .idle)
    ∧ (∀ r, (receiving r).port.selHigh = false ∧ (receiving r).port.receiver = r)
    ∧ (byteOf ([false, true, false, true, false, false, false] ++ [false]) = Command.fetchEvents.code
      ∧ [false, true, false, true, false, false, false].length = 7)
    ∧ (([] : List Byte).length + 1 = Command.fetchEvents.argBytes ∧ ([] : List Byte).length + 1 < Command.ackEvents.argBytes) :=
  ⟨⟨rfl, rfl⟩, fun _ => ⟨rfl, rfl⟩, by decide, by decide⟩

theorem met_UnknownAndMismatchedFramesAreAnswered :
    (Command.ofCode 0xFF = none ∧ (receiving (.code (List.replicate 7 true))).port.selHigh = false
      ∧ List.replicate 7 true ++ [true] = bitsOf 0xFF ∧ [] ++ bitsOf 0xFF = bitsOf 0xFF)
    ∧ (Command.ofCode 0x60 = some .status ∧ State.reset.canTake (.badCheck 0x60) = true) := by decide

/-- A reply ready at the first bit of a filler byte, and at its last bit with no further filler byte owed and with one; and a
reply still awaited. -/
theorem met_RepliesAreClockedOut :
    (∀ r, (receiving r).port.selHigh = false ∧ (receiving r).port.receiver = r)
      ∧ (∀ bit ∈ [0, 7], ∀ owed ∈ [0, 1], (receiving (.replying (.filler owed bit (some ⟨.done, []⟩)))).port.receiver
          = .replying (.filler owed bit (some ⟨.done, []⟩)) ∧ bit < 8)
      ∧ (receiving (.replying (.filler 1 7 none))).port.receiver = .replying (.filler 1 7 none) :=
  ⟨fun _ => ⟨rfl, rfl⟩, by decide, rfl⟩

/-- R163: a reply made ready in the last bit of a filler byte starts with the next byte where no filler byte is owed, and one
filler byte later where one is. -/
theorem test_start_byte_follows_a_whole_filler_byte :
    mdoBits (List.replicate 9 false) (receiving (.replying (.filler 1 7 (some ⟨.done, []⟩))))
        = some true :: (bitsOf 0x5A).map some
    ∧ mdoBits (List.replicate 9 false) (receiving (.replying (.filler 2 7 (some ⟨.done, []⟩))))
        = List.replicate 9 (some true) := by decide +kernel

theorem met_FramesArePassedOnWhenChecked :
    frameOf (.fetchEvents 8) = some (.fetchEvents, [8]) ∧ State.reset.port.selHigh = true
      ∧ State.reset.port.receiver = .idle ∧ (0x34 : Byte) = crc8 [0x50, 0x08] := by decide +kernel

theorem met_FrameBytesSpellTheirCommand :
    frameOf (.setWindow 3 (imageOf 0x10000000 12 4096)) = some (.setWindow, 3 :: (imageOf 0x10000000 12 4096).bytes) := rfl

theorem met_StepsKeepTheWindowAndTableLaws :
    (lawfulTable.WindowsLawful ∧ lawfulTable.TableLawful) ∧ ∃ t, step { lawfulTable with pending := [.send] } = .next t := by
  refine ⟨⟨lawfulTable_windows, ⟨?_, ?_, ?_, ?_, ?_⟩⟩, ⟨_, rfl⟩⟩
  · intro e k h
    rw [lawfulTable_entry] at h
    split at h
    · cases h; subst e; decide
    · cases h
  · intro e e' k h h'
    rw [lawfulTable_entry] at h h'
    split at h <;> split at h' <;> simp_all [Entry.key?]
  · intro e k h
    rw [lawfulTable_entry] at h
    split at h
    · cases h; rw [lawfulTable_window]; decide
    · cases h
  · intro e
    rw [lawfulTable_entry]
    split <;> simp [claimOf, Entry.ownerNotSharer, shareHas]
  · intro e
    rw [lawfulTable_entry]
    split <;> simp [claimOf, Entry.ageInRange]

theorem silent_slot (k : SlotNo) : silent.slot k = if k = 5 then
    .outstanding { initiator := 6, tag := 1, kind := .write, addr := 0x101A6000, length := 16 } (some 600) (some 620)
    else .free := by
  simp only [silent, State.slot_putReturnList, State.slot_putEntry, State.slot_putSlot]
  split
  · rfl
  · exact Vec.get_replicate _ _

theorem silent_entry (e : EntryIndex) : silent.entry e = if e = 600 then
    .claimed ⟨3, 422⟩ ⟨6, 0, false, true, 0, some 5⟩ else .free := by
  simp only [silent, State.entry_putReturnList, State.entry_putEntry, State.entry_putSlot]
  split
  · rfl
  · exact Vec.get_replicate _ _

theorem silent_returnList (i : Initiator) : silent.returnList i = if i = 6 then [5] else [] := by
  simp only [silent, State.returnList_putReturnList, State.returnList_putEntry, State.returnList_putSlot]
  split
  · rfl
  · exact Vec.get_replicate _ _

theorem silent_links : silent.LinksLawful := by
  constructor
  · intro k e
    rw [silent_slot, silent_entry]
    split <;> split <;> simp_all [Slot.link?, Entry.claimSlot?, eq_comm]
  · intro k e h
    rw [silent_slot] at h ⊢
    split at h
    · simp_all [Slot.access?]
    · cases h

theorem met_StepsKeepTheTrackerLaws :
    (silent.OrdersLawful ∧ silent.LinksLawful) ∧ ∃ t, step { silent with pending := [.send] } = .next t := by
  refine ⟨⟨⟨?_, ?_, ?_, ?_⟩, silent_links⟩, ⟨_, rfl⟩⟩
  · intro i k
    rw [silent_slot, silent_returnList]
    split <;> split <;> simp_all [Slot.listedFor, eq_comm]
  · intro i
    rw [silent_returnList]
    split <;> decide
  · intro k
    rw [silent_slot, show silent.forwardQueue = [] from rfl]
    split <;> simp [Slot.isQueued]
  · rw [show silent.forwardQueue = [] from rfl]
    exact List.nodup_nil

theorem met_StepsKeepTheEventQueueLaws :
    (queueOf 1 true 0).Lawful ∧ ∃ t, step { State.reset.putQueue (queueOf 1 true 0) with pending := [.send] } = .next t :=
  ⟨met_FetchMarksAndAckRemoves.2.1.2, ⟨_, rfl⟩⟩

/-- A PURGE that has taken three steps and freed two entries, beside a running sweep. -/
def walking : State :=
  { (sweepAt 7 (purgeAt 3 State.reset)) with pending := [.send] }

theorem met_StepsKeepTheSweepAndLongCommandLaws :
    (walking.sweep.Lawful ∧ walking.LongLawful) ∧ (∃ t, step walking = .next t)
      ∧ ({ silent with now := 620 } : State).TimesLawful ∧ ∃ t, step { silent with now := 620 } = .next t := by
  refine ⟨⟨by constructor <;> decide, ?_⟩, ⟨_, rfl⟩, ?_, ⟨_, rfl⟩⟩
  · constructor <;> intro h <;> simp [walking, sweepAt, purgeAt, State.putLong, State.putSweep, LongOp.cold] at h ⊢
  · exact ⟨silent_due.1.deadlines, silent_due.1.boundary, silent_due.1.expiry, silent_due.1.limit, silent_due.1.forced⟩

theorem met_StepsKeepTheGateLaneAndPortLaws :
    let s := { (receiving (.code [true])).putLane 2 (some (readOf 2 0 4)) with pending := [.send] }
    (s.gatesLawful ∧ s.lanesLawful ∧ s.PortLawful) ∧ ∃ t, step s = .next t := by
  refine ⟨⟨?_, ?_, ⟨by show 1 < 8; decide, nofun, nofun⟩⟩, ⟨_, rfl⟩⟩
  · intro i
    show (State.reset.gate i).Lawful
    rw [show State.reset.gate i = .cold from Vec.get_replicate _ _]
    constructor <;> decide
  · intro i r h
    have : (State.putLane (receiving (.code [true])) 2 (some (readOf 2 0 4))).lane i = some r := h
    rw [State.lane_putLane] at this
    split at this
    · cases this; subst i; rfl
    · exact absurd ((Vec.get_replicate _ _ : State.reset.lane i = none).symm.trans this) nofun

theorem met_OnlySendAndDepartureReachOutside :
    (after queued .send).sentDown = [⟨2, .read, 0x101A6000, 16, [], []⟩]
      ∧ (after wrapped .departure).leftUp = [⟨1, 3, .okay, []⟩] := by decide +kernel

theorem met_SlotsMoveOnlyAsTheirStatesAllow :
    step { queued with pending := [.send] } = .next (after queued .send)
      ∧ (after queued .send).slot 2 = .outstanding (accessOf 3 .read) none none :=
  ⟨rfl, by decide +kernel⟩

/-- A PINNED entry under a sweep step that reaches it. -/
def pinnedSwept : State :=
  { sweepAt 597 (State.reset.putEntry 597 (.pinned ⟨0, 149⟩ ⟨1, 0, false⟩)) with pending := [.sweepStep] }

theorem met_PinnedAndBarredEntriesStay :
    pinnedSwept.LinksLawful ∧ (∃ t, step pinnedSwept = .next t) ∧ pinnedSwept.entry 597 = .pinned ⟨0, 149⟩ ⟨1, 0, false⟩ := by
  have hs (k : SlotNo) : pinnedSwept.slot k = .free := Vec.get_replicate _ _
  have he (e : EntryIndex) : pinnedSwept.entry e = if e = 597 then .pinned ⟨0, 149⟩ ⟨1, 0, false⟩ else .free := by
    show (State.reset.putEntry 597 _).entry e = _
    rw [State.entry_putEntry]
    split
    · rfl
    · exact Vec.get_replicate _ _
  refine ⟨⟨?_, ?_⟩, ⟨_, rfl⟩, by rw [he, if_pos rfl]⟩
  · intro k e
    rw [hs, he]
    split <;> simp [Slot.link?, Entry.claimSlot?]
  · intro k e h
    rw [hs] at h
    cases h

theorem met_PolicyChangesOnlyByCommand :
    (∃ t, step { State.reset with pending := [.admission] } = .next t) ∧ frameOf .admission = none :=
  ⟨⟨_, rfl⟩, rfl⟩

/-- The owner of granule 421 writes it. -/
theorem met_EnforcedWritesNeedOwnership :
    let r := writeOf 1 0x101A5000 8
    let s := present mixed r
    s.Admits 1 r 0 ∧ (s.gate 1).state = .opened ∧ (s.gate 1).privileged = false ∧ r.kind = .write
      ∧ s.findKey r.addr = some ⟨3, 421⟩ ∧ (s.window 3).mode = .learn
      ∧ (∃ t, exec .admission s = .next t)
      ∧ (presentAdmit mixed r).slot 0 = .queued (requestAccess r) (requestPayload r) none :=
  ⟨admits_of (by decide +kernel), by decide +kernel, by decide +kernel, rfl, by decide +kernel, by decide +kernel,
    ⟨_, by unfold exec execAdmission; rfl⟩, by decide +kernel⟩

end Sys2Proof.Tests
end

/-! READ_ENTRY: the two outcomes of its body, and what they make of the obligation. -/

namespace Sys2Proof.Machine

variable {s : State} {n : BitVec 16}

/-- READ_ENTRY runs its body as a management command. -/
theorem exec_readEntry (n : BitVec 16) (s : State) :
    exec (.readEntry n) s = runCommand .readEntry (.readEntry n) (readEntryBody n) s := rfl

/-- R29: an index of the table is answered with the image of its entry, whatever the entry's kind. -/
theorem readEntryBody_of_index {e : EntryIndex} (h : n.toNat = e.val) :
    readEntryBody n s = done s (s.entryBytes e) := by
  have hlt : n.toNat < 1024 := h ▸ e.isLt
  have he : (⟨n.toNat, hlt⟩ : EntryIndex) = e := Fin.ext h
  rw [readEntryBody, dif_pos hlt, he]

/-- R29: an index past the table is refused. -/
theorem readEntryBody_of_gt (h : 1023 < n.toNat) : readEntryBody n s = refuse s .badArgument :=
  dif_neg (by omega)

/-- Settles O37. READ_ENTRY is taken and answered by its body, which leaves the state alone (`readEntryBody_frame`); the
reply is the body's, by the two cases of R29. -/
theorem readEntryShowsTheEntry : Obligations.ReadEntryShowsTheEntry := by
  intro s n ⟨htake, hrunning⟩
  have hstate : (readEntryBody n s).state = s := readEntryBody_frame n s
  have hport : (readEntryBody n s).state.port = s.port := by rw [hstate]
  have hheld : (readEntryBody n s).state.passedOn = s.passedOn := by rw [hstate]
  refine ⟨_, (exec_readEntry n s).trans (runCommand_of_ready htake hrunning), ?shown, ?refused, ?frame⟩
  case shown =>
    intro e he
    have hbody := readEntryBody_of_index (s := s) he
    exact answered_body (c := .readEntry) nofun hport hheld (by rw [hbody, done]) (by rw [hbody, done, State.entryBytes])
  case refused =>
    intro hn
    have hbody := readEntryBody_of_gt (s := s) hn
    exact answered_body (c := .readEntry) nofun hport hheld (by rw [hbody, refuse]) (by rw [hbody, refuse])
  case frame =>
    rw [hstate]
    exact State.fixReply_eq s _ _

end Sys2Proof.Machine

/-! Admission and verdicts: the answer to a malformed request, and the working verdict of the window and table steps. -/

namespace Sys2Proof.Machine

variable {s : State} {r : Request} {g : Gate} {key : Key}

/-! ### A malformed request -/

/-- ADMISSION of the chosen lane's request, into the lowest FREE slot. -/
theorem exec_admission_of_admits {i : Initiator} {k : SlotNo} (h : s.Admits i r k) :
    exec .admission s = .next (s.admitRequest r k) :=
  execAdmission_of_admits s h

/-- R55: a request that fails the form check is answered, and not judged. -/
theorem State.admitRequest_of_malformed (h : ¬ wellFormedRequest r) (k : SlotNo) :
    s.admitRequest r k = s.answerMalformed r k := by
  have hform : malformed r = true := by
    rwa [← malformed_eq_false, Bool.not_eq_false] at h
  exact if_pos hform

/-- Settles O6: the admission is the answer to a malformed request, whose whole effect `answerMalformed_spec` says. -/
theorem admissionAnswersMalformed : Obligations.AdmissionAnswersMalformed := by
  intro s i r k hadmits hform
  have hexec : exec .admission s = .next (s.answerMalformed r k) := by
    rw [exec_admission_of_admits hadmits, State.admitRequest_of_malformed hform]
  obtain rfl : r.initiator = i := hadmits.own
  obtain ⟨hadmitted, hslot, htable, hforward, hgate, hqueue⟩ := s.answerMalformed_spec r k
  exact ⟨_, hexec, hadmitted, hslot, hforward, htable, hgate, hqueue⟩

/-! ### The window that covers an address -/

/-- R33: the addresses of a window, as bounds. -/
theorem Window.covers_iff {w : Window} {a : Addr} :
    w.covers a = true ↔ w.base.toNat ≤ a.toNat ∧ a.toNat < w.base.toNat + w.size * 2 ^ w.exponent := by
  simp only [Window.covers, Bool.and_eq_true, decide_eq_true_eq]

/-- R35: no key is found exactly where no enabled window covers the address. -/
theorem State.findKey_eq_none_iff {a : Addr} :
    s.findKey a = none ↔ ∀ w, ¬ ((s.window w).enabled = true ∧ (s.window w).covers a = true) := by
  simp only [State.findKey, State.findWindow, Option.map_eq_none_iff, List.find?_eq_none, List.mem_finRange,
    true_implies, Bool.and_eq_true]

/-- R35: where windows do not overlap, the enabled window that covers an address is the one found for it. -/
theorem State.findWindow_of_covers (hs : s.WindowsLawful) {w : WindowNo} {a : Addr} (hw : (s.window w).enabled = true)
    (ha : (s.window w).covers a = true) : s.findWindow a = some w := by
  rw [State.findWindow, find_finRange]
  refine ⟨by rw [hw, ha, Bool.and_self], fun v hv => ?_⟩
  rw [← Bool.not_eq_true, Bool.and_eq_true]
  rintro ⟨hv', hva⟩
  exact hs.disjoint v w (ne_of_lt hv) hv' hw a ⟨hva, ha⟩

/-! ### The window step -/

/-- R58: outside every window, the outside action PASS passes. -/
theorem State.windowStep_outside_pass (h : s.findKey r.addr = none) (ha : s.outside.action = .pass) :
    s.windowStep r g = .start .pass none g := by
  simp only [State.windowStep, h, ha]

/-- R58: outside every window, the outside action REFUSE refuses. -/
theorem State.windowStep_outside_refuse (h : s.findKey r.addr = none) (ha : s.outside.action = .refuse) :
    s.windowStep r g = .start (.refuse .outside) none g := by
  simp only [State.windowStep, h, ha]

/-- R58: an OPEN window passes. -/
theorem State.windowStep_opened (h : s.findKey r.addr = some key) (hm : (s.window key.window).mode = .opened) :
    s.windowStep r g = .start .pass (some key) g := by
  simp only [State.windowStep, h, hm]

/-- R58: a CLOSED window refuses. -/
theorem State.windowStep_closed (h : s.findKey r.addr = some key) (hm : (s.window key.window).mode = .closed) :
    s.windowStep r g = .start (.refuse .closedWindow) (some key) g := by
  simp only [State.windowStep, h, hm]

/-- R58: a LEARN or FIXED window leaves the verdict to the table step. -/
theorem State.windowStep_table (h : s.findKey r.addr = some key)
    (hm : (s.window key.window).mode = .learn ∨ (s.window key.window).mode = .fixed) :
    s.windowStep r g = s.tableStep r key g := by
  rcases hm with hm | hm <;> simp only [State.windowStep, h, hm]

/-! ### The table step -/

/-- R10: an owner is granted everything. -/
theorem grant_owner {owner i : Initiator} (h : i = owner) (share : ShareSet) (strict : Bool) (k : Access) :
    grant owner share strict i k = .pass :=
  if_pos h

/-- R10: nobody but the owner is granted a write. -/
theorem grant_write {owner i : Initiator} (h : i ≠ owner) (share : ShareSet) (strict : Bool) :
    grant owner share strict i .write = .refuse .notOwner :=
  if_neg h

/-- R10: another's read is refused exactly where the entry is strict and does not share with the reader. -/
theorem grant_read {owner i : Initiator} (h : i ≠ owner) (share : ShareSet) (strict : Bool) :
    grant owner share strict i .read = if strict && !shareHas share i then .refuse .notSharer else .pass :=
  if_neg h

/-- R10: what passes is the owner's access, and a read of an entry that is not strict or shares with the reader. -/
theorem grant_eq_pass {owner i : Initiator} {share : ShareSet} {strict : Bool} {k : Access}
    (h : i = owner ∨ (k = .read ∧ (strict = false ∨ shareHas share i = true))) :
    grant owner share strict i k = .pass := by
  by_cases hi : i = owner
  · exact grant_owner hi share strict k
  · obtain ⟨rfl, hread⟩ := h.resolve_left hi
    rw [grant_read hi]
    rcases hread with hread | hread <;> simp [hread]

/-- R59: a CLAIMED and a PINNED entry with one owner, share set and strict mark give one verdict. -/
theorem Entry.verdict_owned {x : Entry} {owner : Initiator} {share : ShareSet} {strict : Bool}
    (h : (∃ c, x = .claimed key c ∧ c.owner = owner ∧ c.share = share ∧ c.strict = strict)
      ∨ x = .pinned key ⟨owner, share, strict⟩) (i : Initiator) (k : Access) :
    x.verdict i k = grant owner share strict i k := by
  rcases h with ⟨c, rfl, rfl, rfl, rfl⟩ | rfl <;> rfl

/-- R59: an entry that passes the access is the granted entry. -/
theorem State.tableStep_granted {e : EntryIndex} (h : s.lookup key = some e)
    (hv : (s.entry e).verdict r.initiator r.kind = .pass) :
    s.tableStep r key g = { Judgement.start .pass (some key) g with granted := some e } := by
  simp only [State.tableStep, h, hv, if_true]

/-- R59: an entry that refuses the access grants nothing. -/
theorem State.tableStep_refused {e : EntryIndex} {reason : Reason} (h : s.lookup key = some e)
    (hv : (s.entry e).verdict r.initiator r.kind = .refuse reason) :
    s.tableStep r key g = .start (.refuse reason) (some key) g := by
  simp only [State.tableStep, h, hv, reduceCtorEq, if_false, Judgement.start]

/-- R59: where no entry matches, the window's mode and the request's kind give the verdict. -/
theorem State.tableStep_unlisted (h : s.lookup key = none) :
    s.tableStep r key g = .start (unlistedVerdict (s.window key.window).mode r.kind) (some key) g := by
  rw [State.tableStep, h]

/-- R59: the verdict on an address that no entry lists, in the two modes that ask the table. -/
theorem unlistedVerdict_eq {m : WindowMode} (h : m = .learn ∨ m = .fixed) (k : Access) :
    unlistedVerdict m k = if m = .fixed then .refuse .unlisted else if k = .read then .pass else .claimDue := by
  rcases h with rfl | rfl
  · cases k <;> rfl
  · rfl

/-- Settles O7: the key by the window lookup, then a row of R58 for each outcome of the window step and a row of R59 for
each outcome of the table step. -/
theorem windowAndTableStepsGiveTheVerdict : Obligations.WindowAndTableStepsGiveTheVerdict := by
  intro s r g covered
  have hcovered (w : WindowNo) :
      covered w ↔ (s.window w).enabled = true ∧ (s.window w).covers r.addr = true :=
    and_congr_right fun _ => Window.covers_iff.symm
  refine ⟨?nokey, ?thekey, ?outsidePass, ?outsideRefuse,
    fun key hkey => ⟨?opened, ?closed, fun hmode => ⟨?listed, ?unlisted⟩⟩⟩
  case nokey => simp only [hcovered, State.findKey_eq_none_iff]
  case thekey =>
    intro hs w hw
    obtain ⟨henabled, hcovers⟩ := (hcovered w).mp hw
    rw [State.findKey, State.findWindow_of_covers hs henabled hcovers]
    rfl
  case outsidePass => exact State.windowStep_outside_pass
  case outsideRefuse => exact State.windowStep_outside_refuse
  case opened => exact State.windowStep_opened hkey
  case closed => exact State.windowStep_closed hkey
  case listed =>
    intro e he
    rw [State.windowStep_table hkey hmode]
    refine ⟨fun hbarred => State.tableStep_refused he (by rw [hbarred]; rfl), fun owner share strict howned => ?_⟩
    have hverdict := Entry.verdict_owned howned r.initiator r.kind
    refine ⟨?granted, ?notOwner, ?notSharer⟩
    case granted =>
      intro hgrant
      exact State.tableStep_granted he (hverdict.trans (grant_eq_pass hgrant))
    case notOwner =>
      intro hother hwrite
      exact State.tableStep_refused he (by rw [hverdict, hwrite, grant_write hother])
    case notSharer =>
      intro hother hread hstrict hnotShared
      have hshare : shareHas share r.initiator = false := hnotShared
      exact State.tableStep_refused he (by rw [hverdict, hread, grant_read hother, hstrict, hshare]; rfl)
  case unlisted =>
    intro hnone
    rw [State.windowStep_table hkey hmode, State.tableStep_unlisted hnone, unlistedVerdict_eq hmode]

end Sys2Proof.Machine

/-! DOWNSTREAM_RESPONSE: its outcome for each state of the slot its tag names, and what an answer does to the claim that the
slot's link names. -/

namespace Sys2Proof.Machine

variable {s : State} {k : SlotNo} {a : SlotAccess} {link : Option EntryIndex} {d : Option Nat} {p : Payload}
  {r : Response} {status : RespStatus} {data : List Byte}

/-! ### The outcome, by the slot's state -/

/-- R114: an OUTSTANDING slot takes memory's answer and is READY, without the orphan mark. -/
def State.takeAnswer (s : State) (k : SlotNo) (a : SlotAccess) (status : RespStatus) (data : List Byte) : State :=
  s.putSlot k (.ready a ⟨[], []⟩ (memoryResponse a status data) false)

/-- R114, R16: an OKAY answer of an OUTSTANDING slot confirms its claim. -/
theorem exec_downstreamResponse_okay (h : s.slot k = .outstanding a link d) :
    exec (.downstreamResponse k .okay data) s = .next ((s.takeAnswer k a .okay data).confirmClaim link) := by
  rw [exec, execDownstreamResponse, h, State.takeAnswer]

/-- R114, R17: an ERROR answer of an OUTSTANDING slot voids its claim. -/
theorem exec_downstreamResponse_error (h : s.slot k = .outstanding a link d) :
    exec (.downstreamResponse k .error data) s = .next ((s.takeAnswer k a .error data).voidClaim a link) := by
  rw [exec, execDownstreamResponse, h, State.takeAnswer]

/-- R115: a response for a slot that timed out and has not departed clears the orphan mark. -/
theorem exec_downstreamResponse_timedOut (h : s.slot k = .ready a p r true) :
    exec (.downstreamResponse k status data) s =
      .next ((s.putSlot k (.ready a p r false)).raise (.lateResponse k)) := by
  rw [exec, execDownstreamResponse, h]

/-- R116: a response for an ORPHANED slot frees it. -/
theorem exec_downstreamResponse_orphaned (h : s.slot k = .orphaned a) :
    exec (.downstreamResponse k status data) s = .next ((s.putSlot k .free).raise (.lateResponse k)) := by
  rw [exec, execDownstreamResponse, h]

/-- R117: a response for a slot that awaits none is a stray. -/
theorem exec_downstreamResponse_stray
    (h : s.slot k = .free ∨ (∃ a p l, s.slot k = .queued a p l) ∨ ∃ a p r, s.slot k = .ready a p r false) :
    exec (.downstreamResponse k status data) s = .next (s.raise (.strayResponse k)) := by
  rcases h with h | ⟨a, p, l, h⟩ | ⟨a, p, r, h⟩ <;> rw [exec, execDownstreamResponse, h]

/-! ### The answer -/

/-- R105, R114: the slot holds memory's status, and the L bytes of an OKAY read alone. -/
theorem memoryResponse_eq (a : SlotAccess) (status : RespStatus) (data : List Byte) :
    memoryResponse a status data =
      ⟨status, if status = .okay ∧ a.kind = .read then (data ++ List.replicate a.length 0).take a.length else []⟩ := by
  cases status with
  | okay => cases hkind : a.kind <;> simp [memoryResponse, hkind]
  | error => simp [memoryResponse]

/-- An answer reaches the slot its tag names and no other, whatever becomes of the claim. -/
theorem State.takeAnswer_slots {t : State} (h : t.slots = (s.takeAnswer k a status data).slots) :
    t.slot k = .ready a ⟨[], []⟩ (memoryResponse a status data) false ∧ ∀ j, j ≠ k → t.slot j = s.slot j := by
  have hslot (j : SlotNo) : t.slot j = (s.takeAnswer k a status data).slot j := by rw [State.slot, h, State.slot]
  exact ⟨(hslot k).trans (State.slot_putSlot_self ..), fun j hj => (hslot j).trans (State.slot_putSlot_of_ne _ _ _ _ hj)⟩

/-- R16: confirming a claim clears the claim slot of the entry its link names, and touches no other entry. -/
theorem State.confirmClaim_spec {u : State} (ht : u.table = s.table) :
    (∀ e, link ≠ some e → (u.confirmClaim link).entry e = s.entry e)
    ∧ (∀ e key c, link = some e → s.entry e = .claimed key c →
        (u.confirmClaim link).entry e = .claimed key { c with claimSlot := none })
    ∧ (u.confirmClaim link).slots = u.slots
    ∧ (u.confirmClaim link).queue = u.queue := by
  have hentry (e : EntryIndex) : u.entry e = s.entry e := by rw [State.entry, ht, State.entry]
  refine ⟨fun e he => ?others, fun e key c he hc => ?named, ?slots, ?queue⟩
  case others => rw [State.entry_confirmClaim, if_neg he, hentry]
  case named => rw [State.entry_confirmClaim, if_pos he, hentry, hc]
  case slots => rw [State.confirmClaim_eq]
  case queue => rw [State.confirmClaim_eq]

/-- R114, R16, R17: the answer of an OUTSTANDING slot, with the whole effect of its status on the claim. -/
theorem downstreamResponse_answers (h : s.slot k = .outstanding a link d) (hlink : s.linkAgrees k link) :
    ∃ t, exec (.downstreamResponse k status data) s = .next t
      ∧ t.slots = (s.takeAnswer k a status data).slots
      ∧ (∀ e, link ≠ some e → t.entry e = s.entry e)
      ∧ (∀ e key c, link = some e → s.entry e = .claimed key c →
          t.entry e = if status = .okay then .claimed key { c with claimSlot := none } else .free)
      ∧ t.queue = (s.raiseAll (if status = .error then s.voidEvents a link else [])).queue := by
  cases status with
  | okay =>
    obtain ⟨hothers, hnamed, hslots, hqueue⟩ :=
      State.confirmClaim_spec (s := s) (u := s.takeAnswer k a .okay data) (link := link) rfl
    exact ⟨_, exec_downstreamResponse_okay h, hslots, hothers, hnamed, hqueue⟩
  | error =>
    obtain ⟨hentry, hslots, hqueue⟩ :=
      State.voidClaim_spec s (u := s.takeAnswer k a .error data) (a := a) hlink rfl rfl
        (by simp [State.takeAnswer, Slot.unlink])
    refine ⟨_, exec_downstreamResponse_error h, hslots, fun e he => ?others, fun e key c he _ => ?named, ?queue⟩
    case others => rw [hentry, if_neg he]
    case named => rw [hentry, if_pos he, if_neg nofun]
    case queue =>
      rw [if_pos rfl]
      exact hqueue.trans (State.raiseAll_queue_congr s (t := s.takeAnswer k a .error data) rfl rfl _)

/-! ### A response that no access awaits -/

/-- R115, R116: a late response changes the slot its tag names and settles LATE_RESPONSE, and nothing else. -/
theorem State.lateResponse_spec (s : State) (k : SlotNo) (x : Slot) :
    let t := (s.putSlot k x).raise (.lateResponse k)
    t.slot k = x ∧ (∀ j, j ≠ k → t.slot j = s.slot j) ∧ t.queue = (s.raise (.lateResponse k)).queue
      ∧ t = { s with slots := t.slots, queue := t.queue } := by
  refine ⟨?named, fun j hj => ?others, ?queue, ?frame⟩
  case named => rw [State.slot_raise, State.slot_putSlot_self]
  case others => rw [State.slot_raise, State.slot_putSlot_of_ne _ _ _ _ hj]
  case queue => exact State.raise_queue_congr s (t := s.putSlot k x) rfl rfl _
  case frame =>
    rw [State.raise_eq]
    rfl

/-- Settles O19: an answer by `downstreamResponse_answers`, a late response by `State.lateResponse_spec` for the slot it
leaves, and a stray by the event alone. -/
theorem responsesReachTheirSlots : Obligations.ResponsesReachTheirSlots := by
  intro s k status data
  refine ⟨fun a link d h hlink => ?answer, fun a p r h => ?late, fun a h => ?freed, fun h => ?stray⟩
  case answer =>
    obtain ⟨t, hexec, hslots, hothers, hnamed, hqueue⟩ :=
      downstreamResponse_answers (status := status) (data := data) h hlink
    obtain ⟨hslot, hslotOthers⟩ := State.takeAnswer_slots hslots
    rw [memoryResponse_eq] at hslot
    exact ⟨t, hexec, hslot, hslotOthers, hothers, hnamed, hqueue, execDownstreamResponse_frame hexec⟩
  case late => exact ⟨_, exec_downstreamResponse_timedOut h, s.lateResponse_spec k _⟩
  case freed => exact ⟨_, exec_downstreamResponse_orphaned h, s.lateResponse_spec k _⟩
  case stray => exact ⟨_, exec_downstreamResponse_stray h, rfl, s.raise_eq _⟩

end Sys2Proof.Machine

/-! SWEEP_STEP: the step a running sweep takes, and how the step at index 1023 ends the sweep. -/

namespace Sys2Proof.Machine

variable {s : State} {e : EntryIndex}

/-- R143: the events of two lists in one happening settle as the first list and then the second. -/
theorem State.raiseAll_append (es fs : List Event) : s.raiseAll (es ++ fs) = (s.raiseAll es).raiseAll fs := by
  induction es generalizing s with
  | nil => rfl
  | cons e es ih => exact ih

/-- R132: a running sweep judges the entry at its cursor and moves on. -/
theorem exec_sweepStep_of_running (hrunning : s.sweep.running = true) (hcursor : s.sweep.cursor = e.val) :
    exec .sweepStep s = .next (s.sweepEntry e).advanceSweep := by
  have hlt : s.sweep.cursor < 1024 := hcursor ▸ e.isLt
  have he : (⟨s.sweep.cursor, hlt⟩ : EntryIndex) = e := Fin.ext hcursor
  rw [exec, execSweepStep, dif_pos ⟨hrunning, hlt⟩, he]

/-- R134: a running sweep that ends runs on from index 0 where another is pending, and stops where none is. -/
theorem Sweep.finish_of_running {w : Sweep} (hrunning : w.running = true) :
    w.finish = if w.pending then { w with pending := false, cursor := 0, released := 0 }
               else { w with running := false, cursor := 1024 } := by
  rw [Sweep.finish, Sweep.start, hrunning]

/-- R132, R134, R189: the sweep that moves on from index 1023 ends; the long command and the queue take its end as
`advanceSweep_spec` says. -/
theorem State.advanceSweep_of_last (hcursor : s.sweep.cursor = 1023) :
    s.advanceSweep.sweep = s.sweep.finish
    ∧ s.advanceSweep.long = (if s.long.kind = .sweep ∧ s.long.awaited = some .current then
          { s.long with kind := .none, affected := s.sweep.released }
        else if s.long.kind = .sweep ∧ s.long.awaited = some .next then { s.long with awaited := some .current }
        else s.long)
    ∧ s.advanceSweep.queue = (s.raiseAll (if s.long.kind = .sweep ∧ s.long.awaited = some .current then
          [.commandDone .sweep .complete s.sweep.released] else [])).queue := by
  rw [State.advanceSweep_spec, if_pos (by omega)]
  exact ⟨rfl, rfl, rfl⟩

/-- Settles O25: the step is `sweepEntry` at index 1023, whose effect `sweepEntry_spec` says, and then the end of the sweep
with the count that step leaves (`advanceSweep_of_last`); the events of the two settle in that order. -/
theorem sweepEndsAtTheLastIndex : Obligations.SweepEndsAtTheLastIndex := by
  intro s hrunning hcursor released
  have hexec : exec .sweepStep s = .next (s.sweepEntry 1023).advanceSweep := exec_sweepStep_of_running hrunning hcursor
  have hsweep : (s.sweepEntry 1023).sweep = { s.sweep with released := released } := by rw [State.sweepEntry_spec]
  have hlong : (s.sweepEntry 1023).long = s.long := by rw [State.sweepEntry_spec]
  have hqueue : (s.sweepEntry 1023).queue = (s.raiseAll (s.releaseEvents 1023)).queue := by rw [State.sweepEntry_spec]
  have hwindows : (s.sweepEntry 1023).windows = (s.raiseAll (s.releaseEvents 1023)).windows := by
    rw [State.sweepEntry_spec, State.raiseAll_eq, State.putQueue_windows]
  obtain ⟨hsweepEnd, hlongEnd, hqueueEnd⟩ :=
    State.advanceSweep_of_last (s := s.sweepEntry 1023) (by rw [hsweep, hcursor])
  rw [hsweep] at hsweepEnd
  rw [hsweep, hlong] at hlongEnd hqueueEnd
  refine ⟨_, hexec, ?sweep, hlongEnd, ?queue, execSweepStep_frame hexec⟩
  case sweep => exact hsweepEnd.trans (Sweep.finish_of_running hrunning)
  case queue =>
    rw [hqueueEnd, State.raiseAll_append]
    exact State.raiseAll_queue_congr _ hqueue hwindows _

end Sys2Proof.Machine

/-! Settling an event: when it coalesces with the newest record, and what the queue holds after. -/

namespace Sys2Proof.Machine

/-! ### When an event coalesces -/

/-- R144: one granule is a block of the window's granule size, or a page of 4 KiB where there is no window. -/
theorem State.sameGranule_iff {s : State} {w : Option WindowNo} {a b : Addr} :
    s.sameGranule w a b = true ↔
      (∀ v, w = some v → a.toNat / 2 ^ (s.window v).exponent = b.toNat / 2 ^ (s.window v).exponent)
      ∧ (w = none → a.toNat / 4096 = b.toNat / 4096) := by
  cases w with
  | none => exact decide_eq_true_iff.trans (by simp)
  | some v => exact decide_eq_true_iff.trans (by simp)

/-- R144: where there is no window, one granule is one page of 4 KiB. -/
theorem State.sameGranule_none_iff {s : State} {a b : Addr} :
    s.sameGranule none a b = true ↔ a.toNat / 4096 = b.toNat / 4096 := by
  simp [State.sameGranule_iff]

/-- R144: two violations are one incident when all that coalescing asks of them agrees. -/
theorem State.sameIncident_violation (s : State) (i i' : Initiator) (w w' : Option WindowNo) (a a' : Addr)
    (x x' : Access) (r r' : Reason) (d d' : Bool) :
    s.sameIncident (.violation i w a x r d) (.violation i' w' a' x' r' d') =
      (i == i' && w == w' && s.sameGranule w a a' && x == x' && r == r' && d == d') := rfl

/-- R144: two malformed requests are one incident when one initiator sent both to one page. -/
theorem State.sameIncident_malformed (s : State) (i i' : Initiator) (a a' : Addr) (l l' : Nat) :
    s.sameIncident (.malformed i a l) (.malformed i' a' l') = (i == i' && s.sameGranule none a a') := rfl

/-- R144: what a violation is one incident with. -/
theorem State.sameIncident_violation_iff {s : State} {i : Initiator} {w : Option WindowNo} {a : Addr} {x : Access}
    {r : Reason} {d : Bool} {f : Event} :
    s.sameIncident (.violation i w a x r d) f = true ↔
      ∃ a', f = .violation i w a' x r d ∧ s.sameGranule w a a' = true := by
  cases f with
  | violation i' w' a' x' r' d' =>
    constructor
    · intro h
      simp only [State.sameIncident_violation, Bool.and_eq_true, beq_iff_eq] at h
      obtain ⟨⟨⟨⟨⟨rfl, rfl⟩, hgranule⟩, rfl⟩, rfl⟩, rfl⟩ := h
      exact ⟨a', rfl, hgranule⟩
    · rintro ⟨_, ⟨⟩, hgranule⟩
      simp [State.sameIncident_violation, hgranule]
  | _ => exact ⟨nofun, nofun⟩

/-- R144: what a malformed request is one incident with: no window counts, and the lengths may differ. -/
theorem State.sameIncident_malformed_iff {s : State} {i : Initiator} {a : Addr} {l : Nat} {f : Event} :
    s.sameIncident (.malformed i a l) f = true ↔
      ∃ a' l', f = .malformed i a' l' ∧ a.toNat / 4096 = a'.toNat / 4096 := by
  cases f with
  | malformed i' a' l' =>
    constructor
    · intro h
      simp only [State.sameIncident_malformed, Bool.and_eq_true, beq_iff_eq, State.sameGranule_none_iff] at h
      obtain ⟨rfl, hpage⟩ := h
      exact ⟨a', l', rfl, hpage⟩
    · rintro ⟨_, _, ⟨⟩, hpage⟩
      simp [State.sameIncident_malformed, State.sameGranule_none_iff, hpage]
  | _ => exact ⟨nofun, nofun⟩

/-- R144: two events are one incident as two violations or as two malformed requests, and in no other way. -/
theorem State.sameIncident_iff {s : State} {e f : Event} :
    s.sameIncident e f = true ↔
      (∃ i w a a' x r d, e = .violation i w a x r d ∧ f = .violation i w a' x r d ∧ s.sameGranule w a a' = true)
      ∨ ∃ i a a' l l', e = .malformed i a l ∧ f = .malformed i a' l' ∧ a.toNat / 4096 = a'.toNat / 4096 := by
  constructor
  · intro h
    cases e with
    | violation i w a x r d =>
      obtain ⟨a', hf, hgranule⟩ := State.sameIncident_violation_iff.mp h
      exact .inl ⟨i, w, a, a', x, r, d, rfl, hf, hgranule⟩
    | malformed i a l =>
      obtain ⟨a', l', hf, hpage⟩ := State.sameIncident_malformed_iff.mp h
      exact .inr ⟨i, a, a', l, l', rfl, hf, hpage⟩
    | _ => exact absurd h nofun
  · rintro (⟨i, w, a, a', x, r, d, rfl, hf, hgranule⟩ | ⟨i, a, a', l, l', rfl, hf, hpage⟩)
    · exact State.sameIncident_violation_iff.mpr ⟨a', hf, hgranule⟩
    · exact State.sameIncident_malformed_iff.mpr ⟨a', l', hf, hpage⟩

/-- R144: nothing coalesces into an empty queue. -/
theorem State.coalesces_of_empty {s : State} {e : Event} (h : s.queue.records = []) : s.coalesces e = false := by
  unfold State.coalesces
  rw [h]
  rfl

/-- R144: the newest record alone says whether an event coalesces. -/
theorem State.coalesces_of_records {s : State} {e : Event} {older : List Record} {newest : Record}
    (h : s.queue.records = older ++ [newest]) :
    s.coalesces e = (!newest.fetched && s.sameIncident e newest.event) := by
  unfold State.coalesces
  rw [h, List.getLast?_concat]

/-- R144: an event coalesces when the queue has a newest record, unfetched and of one incident with the event. -/
theorem State.coalesces_iff {s : State} {e : Event} :
    s.coalesces e = true ↔ ∃ older newest, s.queue.records = older ++ [newest] ∧ newest.fetched = false
      ∧ s.sameIncident e newest.event = true := by
  rcases s.queue.records.eq_nil_or_concat' with hempty | ⟨older, newest, hrecords⟩
  · simp [State.coalesces_of_empty, hempty]
  · rw [State.coalesces_of_records hrecords, Bool.and_eq_true, Bool.not_eq_true']
    constructor
    · exact fun h => ⟨older, newest, hrecords, h⟩
    · rintro ⟨older', newest', hrecords', h⟩
      obtain ⟨-, rfl⟩ := List.append_singleton_inj.mp (hrecords.symm.trans hrecords')
      exact h

/-! ### What the queue holds after -/

/-- R145: a merge raises the newest record's repeat count, up to 255, and keeps every other record as it is. -/
theorem EventQueue.mergeNewest_of_records {q : EventQueue} {older : List Record} {newest : Record}
    (h : q.records = older ++ [newest]) :
    q.mergeNewest = { q with records := older ++ [{ newest with repeats := min 255 (newest.repeats + 1) }] } := by
  unfold EventQueue.mergeNewest
  rw [h, List.getLast?_concat, List.dropLast_concat]
  rfl

/-- ATTN is high once the queue holds a newest record. -/
theorem State.attn_of_records {s : State} {older : List Record} {newest : Record}
    (h : s.queue.records = older ++ [newest]) : s.attn = true := by
  unfold State.attn
  simp [h]

/-- Settles O40: the merge by `mergeNewest_of_records`, the append and the loss by the two cases of `EventQueue.append`, the
frame by `State.raise_eq`, and the test of R144 by `State.coalesces_iff` and `State.sameIncident_iff`. -/
theorem eventsSettleInTheQueue : Obligations.EventsSettleInTheQueue := by
  intro s e
  refine ⟨fun older newest hrecords hmerges => ?merged, fun hnew hroom => ?appended, fun hnew hfull => ?lost,
    s.raise_eq e, ?coalesces⟩
  case merged => rw [s.raise_of_coalesces hmerges, State.putQueue_queue, EventQueue.mergeNewest_of_records hrecords]
  case appended =>
    have hqueue := (congrArg State.queue (s.raise_of_not_coalesces hnew)).trans (EventQueue.append_of_room hroom e)
    exact ⟨hqueue, State.attn_of_records (congrArg EventQueue.records hqueue)⟩
  case lost =>
    rw [s.raise_of_not_coalesces hnew, State.putQueue_queue, EventQueue.append_of_full (Nat.not_lt.mpr hfull)]
  case coalesces => simp only [State.coalesces_iff, State.sameIncident_iff, State.sameGranule_iff]

end Sys2Proof.Machine

/-! PURGE_STEP and REOWN_STEP: the step a walk takes at its cursor, and how the walk moves on from the entry it judged. -/

namespace Sys2Proof.Machine

variable {s u : State} {e : EntryIndex}

/-! ### Counting and moving on -/

@[simp] theorem State.countAffected_long (s : State) :
    s.countAffected.long = { s.long with affected := s.long.affected + 1 } := rfl
@[simp] theorem State.entry_countAffected (s : State) (j : EntryIndex) : s.countAffected.entry j = s.entry j := rfl
@[simp] theorem State.slot_countAffected (s : State) (k : SlotNo) : s.countAffected.slot k = s.slot k := rfl
@[simp] theorem State.countAffected_queue (s : State) : s.countAffected.queue = s.queue := rfl
@[simp] theorem State.countAffected_windows (s : State) : s.countAffected.windows = s.windows := rfl

/-- R177, R187: a walk whose step has judged the entry at its cursor moves on to the next, and after index 1023 it ends with
COMMAND_DONE and the count that step leaves. -/
theorem State.advanceWalk_judged {affected skipped : Nat} {kind : LongKind} (c : DoneCommand)
    (hcursor : s.long.cursor = e.val) (hkind : s.long.kind = kind)
    (hlong : u.long = { s.long with affected := affected, skipped := skipped }) (hqueue : u.queue = s.queue)
    (hwindows : u.windows = s.windows) :
    (u.advanceWalk c).long = { s.long with cursor := e.val + 1, affected := affected, skipped := skipped,
                                           kind := if e.val = 1023 then .none else kind }
    ∧ (u.advanceWalk c).queue =
        (s.raiseAll (if e.val = 1023 then [.commandDone c .complete affected] else [])).queue := by
  have hlast : e.val + 1 = 1024 ↔ e.val = 1023 := by omega
  rw [State.advanceWalk_spec]
  simp only [hlong, hcursor, hkind, hlast]
  exact ⟨trivial, State.raiseAll_queue_congr s hqueue hwindows _⟩

/-! ### The step of a PURGE -/

/-- R180: a running PURGE judges the entry at its cursor and moves on. -/
theorem exec_purgeStep_of_running (hkind : s.long.kind = .purge) (habort : s.long.abortRequested = false)
    (hcursor : s.long.cursor = e.val) : exec .purgeStep s = .next ((s.purgeEntry e).advanceWalk .purge) := by
  have hlt : s.long.cursor < 1024 := hcursor ▸ e.isLt
  have he : (⟨s.long.cursor, hlt⟩ : EntryIndex) = e := Fin.ext hcursor
  rw [exec, execPurgeStep, dif_pos ⟨⟨hkind, habort⟩, hlt⟩, he]

/-- R180: a match is freed and counted. -/
theorem State.purgeEntry_of_match (h : s.long.purges (s.entry e) = true) :
    s.purgeEntry e = (s.freeEntry e).countAffected :=
  if_pos h

/-- R180: an entry that does not match is left. -/
theorem State.purgeEntry_of_not_match (h : ¬ s.long.purges (s.entry e) = true) : s.purgeEntry e = s :=
  if_neg h

/-- R180: judging an entry of a PURGE changes no other entry, queues nothing, and counts at most in the affected count. -/
theorem State.purgeEntry_frame (s : State) (e : EntryIndex) :
    (∀ j, j ≠ e → (s.purgeEntry e).entry j = s.entry j)
    ∧ (s.purgeEntry e).long = { s.long with affected := (s.purgeEntry e).long.affected }
    ∧ (s.purgeEntry e).queue = s.queue
    ∧ (s.purgeEntry e).windows = s.windows := by
  by_cases h : s.long.purges (s.entry e) = true
  · rw [State.purgeEntry_of_match h]
    exact ⟨fun j hj => by simp [State.entry_freeEntry, hj], by simp, by simp, by simp⟩
  · rw [State.purgeEntry_of_not_match h]
    exact ⟨fun _ _ => rfl, rfl, rfl, rfl⟩

/-- Settles O26: the step is `purgeEntry` at the cursor, which frees by `entry_freeEntry` and `slot_freeEntry` exactly what
`purges_iff` says it matches, and then the walk moves on (`advanceWalk_judged`). -/
theorem purgeStepFreesMatches : Obligations.PurgeStepFreesMatches := by
  intro s e ks hkind habort hcursor hks x isMatch
  have hexec := exec_purgeStep_of_running hkind habort hcursor
  have hmatch : s.long.purges x = true ↔ isMatch := LongOp.purges_iff hks x
  obtain ⟨hothers, hlong, hqueue, hwindows⟩ := s.purgeEntry_frame e
  obtain ⟨hlongEnd, hqueueEnd⟩ := State.advanceWalk_judged .purge hcursor hkind hlong hqueue hwindows
  have haffected := congrArg LongOp.affected hlongEnd
  refine ⟨_, hexec, fun j hj => ?others, fun h => ?freed, fun h => ?left, ?long, ?queue, execPurgeStep_frame hexec⟩
  case others => rw [State.entry_advanceWalk, hothers j hj]
  case freed =>
    rw [State.entry_advanceWalk, haffected, State.purgeEntry_of_match (hmatch.mpr h)]
    refine ⟨by simp [State.entry_freeEntry], by simp, fun k => ?_⟩
    rw [State.slot_advanceWalk, State.slot_countAffected, State.slot_freeEntry]
  case left =>
    rw [State.entry_advanceWalk, haffected, State.purgeEntry_of_not_match (mt hmatch.mp h)]
    exact ⟨rfl, rfl, by simp⟩
  case long => rw [haffected, hlongEnd]
  case queue => rw [haffected, hqueueEnd]

/-! ### The step of a REOWN -/

/-- R183: a running REOWN judges the entry at its cursor and moves on. -/
theorem exec_reownStep_of_running (hkind : s.long.kind = .reown) (habort : s.long.abortRequested = false)
    (hcursor : s.long.cursor = e.val) : exec .reownStep s = .next ((s.reownEntry e).advanceWalk .reown) := by
  have hlt : s.long.cursor < 1024 := hcursor ▸ e.isLt
  have he : (⟨s.long.cursor, hlt⟩ : EntryIndex) = e := Fin.ext hcursor
  rw [exec, execReownStep, dif_pos ⟨⟨hkind, habort⟩, hlt⟩, he]

section

variable {source target : Initiator} {filter : Option WindowNo} {key : Key}

/-- R183: a REOWN from `source` with this window filter matches an entry. -/
def Entry.reowns (source : Initiator) (filter : Option WindowNo) (x : Entry) : Prop :=
  x.owner? = some source ∧ passesWindow filter x = true

/-- R183: an entry passes the window filter of a REOWN exactly when the filter is any or names the window of its key. -/
theorem passesWindow_iff_of_key {x : Entry} (hkey : x.key? = some key) :
    passesWindow filter x = true ↔ filter = none ∨ filter = some key.window := by
  cases filter with
  | none => simp [passesWindow]
  | some w => simp [passesWindow, Entry.inWindow, hkey, eq_comm]

/-- R183: a CLAIMED entry matches by its owner and its window. -/
theorem Entry.reowns_claimed_iff {c : Claim} :
    (Entry.claimed key c).reowns source filter ↔ c.owner = source ∧ (filter = none ∨ filter = some key.window) := by
  rw [Entry.reowns, passesWindow_iff_of_key rfl, Entry.owner?, Option.some_inj]

/-- R183: a PINNED entry matches by its owner and its window. -/
theorem Entry.reowns_pinned_iff {p : Pin} :
    (Entry.pinned key p).reowns source filter ↔ p.owner = source ∧ (filter = none ∨ filter = some key.window) := by
  rw [Entry.reowns, passesWindow_iff_of_key rfl, Entry.owner?, Option.some_inj]

/-- R183: FREE and BARRED entries have no owner, so an entry that matches as neither CLAIMED nor PINNED does not match. -/
theorem Entry.not_reowns {x : Entry}
    (hclaimed : ∀ key c, x = .claimed key c → c.owner = source → ¬ (filter = none ∨ filter = some key.window))
    (hpinned : ∀ key p, x = .pinned key p → p.owner = source → ¬ (filter = none ∨ filter = some key.window)) :
    ¬ x.reowns source filter := by
  cases x with
  | free => exact fun h => absurd h.1 nofun
  | claimed key c => exact fun h => (Entry.reowns_claimed_iff.mp h).elim (hclaimed key c rfl)
  | pinned key p => exact fun h => (Entry.reowns_pinned_iff.mp h).elim (hpinned key p rfl)
  | barred key => exact fun h => absurd h.1 nofun

/-- R183: a match that is not pending goes to the new owner and is counted. -/
theorem State.reownEntry_of_reowns (hsource : s.long.source = some source) (htarget : s.long.target = some target)
    (hmatch : (s.entry e).reowns source s.long.windowFilter) (hsettled : (s.entry e).claimSlot? = none) :
    s.reownEntry e = (s.putEntry e ((s.entry e).reowned target)).countAffected := by
  rw [State.reownEntry, hsource, htarget]
  refine (if_pos hmatch).trans ?_
  rw [hsettled]
  rfl

/-- R183: a match that is pending is left and counted as skipped. -/
theorem State.reownEntry_of_pending (hsource : s.long.source = some source) (htarget : s.long.target = some target)
    (hmatch : (s.entry e).reowns source s.long.windowFilter) (hpending : (s.entry e).claimSlot? ≠ none) :
    s.reownEntry e = s.countSkipped := by
  rw [State.reownEntry, hsource, htarget]
  exact (if_pos hmatch).trans (if_pos (Option.isSome_iff_ne_none.mpr hpending))

/-- R183: an entry that does not match is left. -/
theorem State.reownEntry_of_not_reowns (hsource : s.long.source = some source) (htarget : s.long.target = some target)
    (hmatch : ¬ (s.entry e).reowns source s.long.windowFilter) : s.reownEntry e = s := by
  rw [State.reownEntry, hsource, htarget]
  exact if_neg hmatch

/-- R183: judging an entry of a REOWN changes no other entry, queues nothing, and counts at most in the affected and the
skipped count. -/
theorem State.reownEntry_frame (hsource : s.long.source = some source) (htarget : s.long.target = some target) :
    (∀ j, j ≠ e → (s.reownEntry e).entry j = s.entry j)
    ∧ (s.reownEntry e).long = { s.long with affected := (s.reownEntry e).long.affected,
                                            skipped := (s.reownEntry e).long.skipped }
    ∧ (s.reownEntry e).queue = s.queue
    ∧ (s.reownEntry e).windows = s.windows := by
  by_cases hmatch : (s.entry e).reowns source s.long.windowFilter
  · by_cases hslot : (s.entry e).claimSlot? = none
    · rw [State.reownEntry_of_reowns hsource htarget hmatch hslot]
      exact ⟨fun j hj => State.entry_putEntry_of_ne s e _ j hj, rfl, rfl, rfl⟩
    · rw [State.reownEntry_of_pending hsource htarget hmatch hslot]
      exact ⟨fun _ _ => rfl, rfl, rfl, rfl⟩
  · rw [State.reownEntry_of_not_reowns hsource htarget hmatch]
    exact ⟨fun _ _ => rfl, rfl, rfl, rfl⟩

end

/-- Settles O27: the step is `reownEntry` at the cursor, which gives the entry away, skips it or leaves it by the three
cases of R183, and then the walk moves on (`advanceWalk_judged`). -/
theorem reownStepMovesOwnership : Obligations.ReownStepMovesOwnership := by
  intro s e source target hkind habort hcursor hsource htarget inScope
  have hexec := exec_reownStep_of_running hkind habort hcursor
  obtain ⟨hothers, hlong, hqueue, hwindows⟩ := State.reownEntry_frame (e := e) hsource htarget
  obtain ⟨hlongEnd, hqueueEnd⟩ := State.advanceWalk_judged .reown hcursor hkind hlong hqueue hwindows
  have haffected := congrArg LongOp.affected hlongEnd
  have hskipped := congrArg LongOp.skipped hlongEnd
  refine ⟨_, hexec, fun j hj => ?others, fun key c hx howner hscope hslot => ?claimed,
    fun key p hx howner hscope => ?pinned, fun key c hx howner hscope hslot => ?skipped,
    fun hclaimed hpinned => ?left, ?long, ?queue, execReownStep_frame hexec⟩
  case others => rw [State.entry_advanceWalk, hothers j hj]
  case claimed =>
    have hmatch : (s.entry e).reowns source s.long.windowFilter := hx ▸ Entry.reowns_claimed_iff.mpr ⟨howner, hscope⟩
    have hsettled : (s.entry e).claimSlot? = none := hx ▸ hslot
    rw [State.entry_advanceWalk, haffected, hskipped, State.reownEntry_of_reowns hsource htarget hmatch hsettled, hx]
    exact ⟨State.entry_putEntry_self s e _, rfl, rfl⟩
  case pinned =>
    have hmatch : (s.entry e).reowns source s.long.windowFilter := hx ▸ Entry.reowns_pinned_iff.mpr ⟨howner, hscope⟩
    have hsettled : (s.entry e).claimSlot? = none := hx ▸ rfl
    rw [State.entry_advanceWalk, haffected, hskipped, State.reownEntry_of_reowns hsource htarget hmatch hsettled, hx]
    exact ⟨State.entry_putEntry_self s e _, rfl, rfl⟩
  case skipped =>
    have hmatch : (s.entry e).reowns source s.long.windowFilter := hx ▸ Entry.reowns_claimed_iff.mpr ⟨howner, hscope⟩
    have hpending : (s.entry e).claimSlot? ≠ none := hx ▸ hslot
    rw [State.entry_advanceWalk, haffected, hskipped, State.reownEntry_of_pending hsource htarget hmatch hpending]
    exact ⟨rfl, rfl, rfl⟩
  case left =>
    rw [State.entry_advanceWalk, haffected, hskipped,
      State.reownEntry_of_not_reowns hsource htarget (Entry.not_reowns hclaimed hpinned)]
    exact ⟨rfl, rfl, rfl⟩
  case long => rw [haffected, hskipped, hlongEnd]
  case queue => rw [haffected, hqueueEnd]

end Sys2Proof.Machine

/-! What the commands that share a shape can do: a management command's body, an admission, and a step that reads a law of
some fields alone. -/

namespace Sys2Proof.Machine

-- One thread elaborates the proofs in order: the host's box caps the memory that threads may map.
set_option Elab.async false

variable {s t : State}

/-- What a management command leaves in anything but the port and the frames held: what was there, or what its body left. -/
theorem runCommand_part {α : Type} {c : Command} {i : Instr} {body : State → Answer} (part : State → α)
    (hpart : ∀ u p h, part { u with port := p, passedOn := h } = part u) (h : runCommand c i body s = .next t) :
    part t = part s ∨ part t = part (body s).state := by
  rcases runCommand_frame h with h | h
  · exact .inl ((congrArg part h).trans (hpart s t.port t.passedOn))
  · exact .inr ((congrArg part h).trans (hpart _ t.port t.passedOn))

/-- A law of such a part, which the body keeps, a management command keeps. -/
theorem runCommand_keeps {α : Type} {c : Command} {i : Instr} {body : State → Answer} {P : α → Prop} {part : State → α}
    (hpart : ∀ u p h, part { u with port := p, passedOn := h } = part u) (h : runCommand c i body s = .next t)
    (hs : P (part s)) (hbody : P (part (body s).state)) : P (part t) := by
  rcases runCommand_part part hpart h with h | h
  · rwa [h]
  · rwa [h]

/-- R53: everything an admission can do. None takes place, or the request of the lane chosen is admitted into the lowest
FREE slot. -/
theorem execAdmission_cases (h : execAdmission s = .next t) :
    t = s ∨ ∃ r k, s.chosenLane = some r.initiator ∧ s.freeSlot = some k ∧ t = s.admitRequest r k := by
  unfold execAdmission at h
  split at h
  next i k hlane hslot =>
    split at h
    next r hr =>
      cases h
      exact .inr ⟨{ r with initiator := i }, k, hlane, hslot, rfl⟩
    next => exact .inl (by cases h; rfl)
  next => exact .inl (by cases h; rfl)

/-- R53: an admission answers a malformed request, holds its request, or comes to the outcome step. -/
theorem State.admitRequest_cases (s : State) (r : Request) (k : SlotNo) :
    s.admitRequest r k = s.answerMalformed r k
    ∨ ((s.judge r).2 = true ∧ s.admitRequest r k = s.holdRequest r (s.judge r).1)
    ∨ ((s.judge r).2 = false ∧ s.admitRequest r k = s.outcome r (s.judge r).1 k) := by
  unfold State.admitRequest
  split
  · exact .inl rfl
  · cases hheld : (s.judge r).2
    · exact .inr (.inr ⟨rfl, by simp [hheld]⟩)
    · exact .inr (.inl ⟨rfl, by simp [hheld]⟩)

end Sys2Proof.Machine

/-! The Event Queue's laws: every way in which the queue can move keeps them. -/

namespace Sys2Proof.Machine

set_option Elab.async false

variable {s t : State} {q : EventQueue}

/-! ### The fetched run -/

/-- R150: the records marked fetched are those at the places below `m`. -/
def FetchedBelow (records : List Record) (m : Nat) : Prop :=
  ∀ n r, records[n]? = some r → (r.fetched = true ↔ n < m)

/-- R150: the fetched records run from the oldest and are at most 8 exactly when they are those below some place of 0 to
8. -/
theorem fetchedRun_iff {records : List Record} :
    (∀ n r, records[n]? = some r → r.fetched = true →
      n < 8 ∧ ∀ m r', m < n → records[m]? = some r' → r'.fetched = true)
    ↔ ∃ m, m ≤ 8 ∧ m ≤ records.length ∧ FetchedBelow records m := by
  constructor
  · intro hrun
    have hend : ∃ n, ∀ r : Record, records[n]? = some r → r.fetched = false := ⟨records.length, by simp⟩
    classical
    have hbelow : ∀ n < Nat.find hend, ∃ r, records[n]? = some r ∧ r.fetched = true := by
      intro n hn
      simpa using Nat.find_min hend hn
    refine ⟨Nat.find hend, ?_, Nat.find_min' hend (by simp), fun n r hr => ⟨fun hf => ?_, fun hn => ?_⟩⟩
    · by_contra hlarge
      obtain ⟨r, hr, hf⟩ := hbelow 8 (by omega)
      exact absurd (hrun 8 r hr hf).1 (by omega)
    · by_contra hge
      have hlt : Nat.find hend < records.length := by
        have := (List.getElem?_eq_some_iff.mp hr).1
        omega
      have hfree := Nat.find_spec hend _ (List.getElem?_eq_getElem hlt)
      rcases Nat.eq_or_lt_of_le (Nat.le_of_not_lt hge) with heq | hlt'
      · simp [Nat.find_spec hend r (heq ▸ hr)] at hf
      · simp [(hrun n r hr hf).2 _ _ hlt' (List.getElem?_eq_getElem hlt)] at hfree
    · obtain ⟨r', hr', hf⟩ := hbelow n hn
      rwa [Option.some.inj (hr.symm.trans hr')]
  · rintro ⟨m, hm, -, hbelow⟩ n r hr hf
    have hn := (hbelow n r hr).mp hf
    exact ⟨by omega, fun n' r' hn' hr' => (hbelow n' r' hr').mpr (by omega)⟩

/-! ### Merging, appending and losing -/

/-- A record put in the newest's place stands at its place; every other record stands at its own. -/
theorem getElem?_replace_newest {older : List Record} {newest x : Record} {n : Nat} {r : Record}
    (h : (older ++ [x])[n]? = some r) :
    (older ++ [newest])[n]? = some (if n = older.length then newest else r) ∧ (n = older.length → r = x) := by
  rcases lt_trichotomy n older.length with hn | hn | hn
  · rw [List.getElem?_append_left hn] at h ⊢
    exact ⟨by rw [if_neg (by omega), h], fun h => absurd h (by omega)⟩
  · subst hn
    simpa using h.symm
  · rw [List.getElem?_eq_none (by simp; omega)] at h
    cases h

/-- R145: raising the newest record's repeat count keeps the laws. -/
theorem EventQueue.Lawful.merge (hq : q.Lawful) : q.mergeNewest.Lawful := by
  rcases q.records.eq_nil_or_concat' with hempty | ⟨older, newest, hrecords⟩
  · have : q.mergeNewest = q := by simp [EventQueue.mergeNewest, hempty]
    rwa [this]
  · rw [EventQueue.mergeNewest_of_records hrecords]
    obtain ⟨depth, numbered, tally, tallyMax, fetchedRun, repeats⟩ := hq
    rw [fetchedRun_iff] at fetchedRun
    obtain ⟨m, hm, hmlen, hbelow⟩ := fetchedRun
    rw [hrecords] at depth numbered tally hmlen hbelow repeats
    simp only [List.length_append, List.length_singleton] at depth numbered tally hmlen
    refine ⟨by simpa using depth, fun n r hr => ?numbered, by simpa using tally, tallyMax,
      fetchedRun_iff.mpr ⟨m, hm, by simpa using hmlen, fun n r hr => ?run⟩, fun r hr => ?repeats⟩
    case numbered =>
      obtain ⟨hold, hnew⟩ := getElem?_replace_newest (newest := newest) hr
      have := numbered n _ hold
      split at this
      next hn => simpa [hnew hn] using this
      next => simpa using this
    case run =>
      obtain ⟨hold, hnew⟩ := getElem?_replace_newest (newest := newest) hr
      have := hbelow n _ hold
      split at this
      next hn => simpa [hnew hn] using this
      next => exact this
    case repeats =>
      rcases List.mem_append.mp hr with hr | hr
      · exact repeats r (List.mem_append_left _ hr)
      · rw [List.mem_singleton] at hr
        subst hr
        simp only
        omega

/-- R146: a new record goes behind the others with the next sequence number, unfetched. -/
theorem EventQueue.Lawful.append_room (hq : q.Lawful) (hroom : q.records.length < 64) (htally : q.lostTally = 0)
    (e : Event) : (q.append e).Lawful := by
  rw [EventQueue.append_of_room hroom]
  obtain ⟨depth, numbered, tally, tallyMax, fetchedRun, repeats⟩ := hq
  obtain ⟨m, hm, hmlen, hbelow⟩ := fetchedRun_iff.mp fetchedRun
  have hplace : ∀ n r, (q.records ++ [⟨q.nextSequence, e, 1, false⟩])[n]? = some r →
      q.records[n]? = some r ∧ n < q.records.length ∨ n = q.records.length ∧ r = ⟨q.nextSequence, e, 1, false⟩ := by
    intro n r hr
    rcases lt_trichotomy n q.records.length with hn | hn | hn
    · exact .inl ⟨by rwa [List.getElem?_append_left hn] at hr, hn⟩
    · subst hn
      exact .inr ⟨rfl, by simpa using hr.symm⟩
    · rw [List.getElem?_eq_none (by simp; omega)] at hr
      cases hr
  refine ⟨by simp; omega, fun n r hr => ?numbered, fun h => absurd htally h, tallyMax,
    fetchedRun_iff.mpr ⟨m, hm, by simp; omega, fun n r hr => ?run⟩, fun r hr => ?repeats⟩
  case numbered =>
    rcases hplace n r hr with ⟨hold, hn⟩ | ⟨rfl, rfl⟩
    · have hlen : q.records.length + 1 - n = (q.records.length - n) + 1 := by omega
      rw [← numbered n r hold]
      simp only [List.length_append, List.length_singleton, hlen, BitVec.ofNat_add]
      exact (BitVec.add_assoc ..).symm
    · simp
  case run =>
    rcases hplace n r hr with ⟨hold, -⟩ | ⟨rfl, rfl⟩
    · exact hbelow n r hold
    · simp only [Bool.false_eq_true, false_iff]
      omega
  case repeats =>
    rcases List.mem_append.mp hr with hr | hr
    · exact repeats r hr
    · rw [List.mem_singleton] at hr
      subst hr
      simp

/-- R146: an event is appended or counted as lost, and a tally only ever rises while the queue is full. -/
theorem EventQueue.Lawful.append (hq : q.Lawful) (e : Event) : (q.append e).Lawful := by
  by_cases hroom : q.records.length < 64
  · have htally : q.lostTally = 0 := by
      by_contra h
      exact absurd (hq.tally h) (by omega)
    exact hq.append_room hroom htally e
  · rw [EventQueue.append_of_full hroom]
    exact { hq with
      tally := fun _ => by have := hq.depth; simp only; omega
      tallyMax := by simp only; omega }

theorem State.raise_keeps_queue (hs : s.queue.Lawful) (e : Event) : (s.raise e).queue.Lawful := by
  unfold State.raise
  split
  · exact hs.merge
  · exact hs.append e

theorem State.raiseAll_keeps_queue (hs : s.queue.Lawful) (es : List Event) : (s.raiseAll es).queue.Lawful := by
  induction es generalizing s with
  | nil => exact hs
  | cons e es ih => exact ih (State.raise_keeps_queue hs e)

/-! ### Clearing, fetching and acknowledging -/

/-- R140, R193: an empty queue is lawful whatever its next sequence number. -/
theorem EventQueue.lawful_empty (n : BitVec 16) : EventQueue.Lawful ⟨[], n, 0⟩ :=
  ⟨by simp, by simp, by simp, by simp, by simp, by simp⟩

/-- R149: marking the oldest records fetched, at most 8, keeps the laws. -/
theorem EventQueue.Lawful.mark (hq : q.Lawful) {n : Nat} (hn : n ≤ 8) : (q.markFetched n).Lawful := by
  obtain ⟨depth, numbered, tally, tallyMax, fetchedRun, repeats⟩ := hq
  obtain ⟨m, hm, hmlen, hbelow⟩ := fetchedRun_iff.mp fetchedRun
  have hlen : (q.markFetched n).records.length = q.records.length := by simp [EventQueue.markFetched]; omega
  have hplace (k : Nat) (r : Record) (hr : (q.markFetched n).records[k]? = some r) :
      ∃ r' : Record, q.records[k]? = some r' ∧ r = { r' with fetched := decide (k < n) || r'.fetched } := by
    by_cases hk : k < n
    · by_cases hkl : k < q.records.length
      · rw [EventQueue.markFetched, List.getElem?_append_left (by simp; omega)] at hr
        simp only [List.getElem?_map, List.getElem?_take_of_lt hk, Option.map_eq_some_iff] at hr
        obtain ⟨r', hr', rfl⟩ := hr
        exact ⟨r', hr', by simp [hk]⟩
      · rw [List.getElem?_eq_none (by omega)] at hr
        cases hr
    · refine ⟨r, ?_, by simp [hk]⟩
      by_cases hnl : n ≤ q.records.length
      · rw [EventQueue.markFetched, List.getElem?_append_right (by simp; omega)] at hr
        simp only [List.length_map, List.length_take, List.getElem?_drop] at hr
        rwa [show n + (k - min n q.records.length) = k by omega] at hr
      · rw [List.getElem?_eq_none (by omega)] at hr
        cases hr
  refine ⟨by omega, fun k r hr => ?numbered, fun h => hlen.trans (tally h), tallyMax,
    fetchedRun_iff.mpr ⟨max m (min n q.records.length), by omega, by omega, fun k r hr => ?run⟩, fun r hr => ?repeats⟩
  case numbered =>
    obtain ⟨r', hr', rfl⟩ := hplace k r hr
    rw [hlen]
    exact numbered k r' hr'
  case run =>
    obtain ⟨r', hr', rfl⟩ := hplace k r hr
    have hk := (List.getElem?_eq_some_iff.mp hr').1
    simp only [Bool.or_eq_true, decide_eq_true_eq, hbelow k r' hr']
    omega
  case repeats =>
    obtain ⟨k, hk⟩ := List.mem_iff_getElem?.mp hr
    obtain ⟨r', hr', rfl⟩ := hplace k r hk
    exact repeats r' (List.mem_of_getElem? hr')

/-- R152: removing the oldest records keeps the laws but for the tally, which may be left to report. -/
theorem EventQueue.Lawful.drop (hq : q.Lawful) (n : Nat) :
    EventQueue.Lawful { q with records := q.records.drop n, lostTally := 0 } := by
  obtain ⟨depth, numbered, -, -, fetchedRun, repeats⟩ := hq
  obtain ⟨m, hm, hmlen, hbelow⟩ := fetchedRun_iff.mp fetchedRun
  refine ⟨by simp; omega, fun k r hr => ?numbered, fun h => absurd rfl h, by simp,
    fetchedRun_iff.mpr ⟨m - n, by omega, by simp; omega, fun k r hr => ?run⟩,
    fun r hr => repeats r (List.mem_of_mem_drop hr)⟩
  case numbered =>
    rw [List.getElem?_drop] at hr
    rw [← numbered _ r hr, List.length_drop, Nat.sub_sub]
  case run =>
    rw [List.getElem?_drop] at hr
    rw [hbelow _ r hr]
    omega

/-- R147, R152: an acknowledgement leaves the newer records, and reports the lost tally where there is one. -/
theorem EventQueue.acknowledge_eq (hq : q.Lawful) {p : Nat} (hp : p < q.records.length) :
    q.acknowledge p =
      if q.lostTally = 0 then { q with records := q.records.drop (p + 1) }
      else { records := q.records.drop (p + 1) ++ [⟨q.nextSequence, .lost q.lostTally, 1, false⟩]
             nextSequence := q.nextSequence + 1, lostTally := 0 } := by
  have hroom : (q.records.drop (p + 1)).length < 64 := by
    have := hq.depth
    rw [List.length_drop]
    omega
  unfold EventQueue.acknowledge EventQueue.reportLost
  split
  next h => rw [if_neg h.1, EventQueue.append_of_room hroom]
  next h => rw [if_pos (by_contra fun htally => h ⟨htally, hroom⟩)]

theorem EventQueue.Lawful.acknowledge (hq : q.Lawful) {p : Nat} (hp : p < q.records.length) :
    (q.acknowledge p).Lawful := by
  have hdrop := hq.drop (p + 1)
  rw [EventQueue.acknowledge_eq hq hp]
  split
  next htally => exact htally ▸ hdrop
  next =>
    have hroom : (q.records.drop (p + 1)).length < 64 := by
      have := hq.depth
      rw [List.length_drop]
      omega
    have := hdrop.append_room hroom rfl (.lost q.lostTally)
    rwa [EventQueue.append_of_room hroom] at this

end Sys2Proof.Machine

/-! How each command moves the queue, and that no step breaks its laws. -/

namespace Sys2Proof.Machine

set_option Elab.async false

variable {s t : State}

/-- R143: from `s` to `t` the queue has settled events, and moved in no other way. -/
def Settles (s t : State) : Prop := ∃ es, t.queue = (s.raiseAll es).queue

theorem Settles.of_same (h : t.queue = s.queue) : Settles s t := ⟨[], h⟩

theorem Settles.of_raise {u : State} (hq : u.queue = s.queue) (hw : u.windows = s.windows) (e : Event)
    (h : t.queue = (u.raise e).queue) : Settles s t :=
  ⟨[e], h.trans (State.raise_queue_congr s hq hw e)⟩

theorem Settles.of_raiseAll {u : State} (hq : u.queue = s.queue) (hw : u.windows = s.windows) (es : List Event)
    (h : t.queue = (u.raiseAll es).queue) : Settles s t :=
  ⟨es, h.trans (State.raiseAll_queue_congr s hq hw es)⟩

theorem Settles.trans {u : State} (h : Settles s t) (hw : t.windows = s.windows) (h' : Settles t u) : Settles s u := by
  obtain ⟨es, hes⟩ := h
  obtain ⟨fs, hfs⟩ := h'
  refine ⟨es ++ fs, ?_⟩
  rw [State.raiseAll_append, hfs]
  exact State.raiseAll_queue_congr (s.raiseAll es) hes (by simp [hw]) fs

theorem Settles.after {u : State} (h : Settles u t) (hq : u.queue = s.queue) (hw : u.windows = s.windows) :
    Settles s t :=
  (Settles.of_same hq).trans hw h

theorem Settles.keeps (h : Settles s t) (hs : s.queue.Lawful) : t.queue.Lawful := by
  obtain ⟨es, hes⟩ := h
  rw [hes]
  exact State.raiseAll_keeps_queue hs es

/-- R53: an admission settles its events. -/
theorem execAdmission_settles (h : execAdmission s = .next t) : Settles s t := by
  rcases execAdmission_cases h with rfl | ⟨r, k, -, -, rfl⟩
  · exact .of_same rfl
  · rcases s.admitRequest_cases r k with h | ⟨-, h⟩ | ⟨-, h⟩ <;> rw [h]
    · obtain ⟨-, -, -, -, -, hqueue⟩ := s.answerMalformed_spec r k
      exact ⟨_, hqueue⟩
    · exact .of_raiseAll (u := s.putGate r.initiator (s.judge r).1.gate) rfl rfl _ rfl
    · obtain ⟨-, -, -, -, -, hqueue⟩ := s.outcome_spec r (s.judge r).1 k
      exact ⟨_, hqueue⟩

theorem State.voidClaim_settles (s : State) (a : SlotAccess) (link : Option EntryIndex) :
    Settles s (s.voidClaim a link) := by
  unfold State.voidClaim
  split
  · exact .of_same rfl
  · split
    · exact .of_raise (u := s.freeEntry _) (by simp) (by simp) _ rfl
    · exact .of_same rfl

theorem State.timeOut_settles (s : State) (k : SlotNo) : Settles s (s.timeOut k) := by
  unfold State.timeOut
  split
  next a link d _ =>
    exact Settles.trans (t := (s.putSlot k (.ready a ⟨[], []⟩ errorResponse true)).raise (.responseTimeout a.initiator a.addr k))
      (.of_raise (u := s.putSlot k _) rfl rfl _ rfl) (by simp) (State.voidClaim_settles _ a link)
  · exact .of_same rfl

theorem execSend_settles (h : execSend s = .next t) : Settles s t := by
  unfold execSend at h
  split at h
  · exact .of_same (by cases h; rfl)
  · split at h
    · split at h
      · cases h
        exact (State.timeOut_settles _ _).after rfl rfl
      · exact .of_same (by cases h; rfl)
    · exact .of_same (by cases h; rfl)

theorem execDownstreamResponse_settles {k : SlotNo} {status : RespStatus} {data : List Byte}
    (h : execDownstreamResponse k status data s = .next t) : Settles s t := by
  unfold execDownstreamResponse at h
  split at h
  · split at h
    · exact .of_same (by cases h; simp)
    · cases h
      exact (State.voidClaim_settles _ _ _).after rfl rfl
  all_goals
    cases h
    exact .of_raise (by rfl) (by rfl) _ rfl

theorem execSweepStep_settles (h : execSweepStep s = .next t) : Settles s t := by
  unfold execSweepStep at h
  split at h
  next hrun =>
    cases h
    refine .trans (t := s.sweepEntry ⟨s.sweep.cursor, hrun.2⟩) ?_ ?_ ?_
    · exact ⟨_, by rw [State.sweepEntry_spec]⟩
    · rw [State.sweepEntry_spec]
    · rw [State.advanceSweep_spec]
      split
      · exact ⟨_, rfl⟩
      · exact .of_same rfl
  next => exact .of_same (by cases h; rfl)

theorem State.advanceWalk_settles (s : State) (c : DoneCommand) : Settles s (s.advanceWalk c) :=
  ⟨_, by rw [State.advanceWalk_spec]⟩

theorem execPurgeStep_settles (h : execPurgeStep s = .next t) : Settles s t := by
  unfold execPurgeStep at h
  split at h
  next hrun =>
    cases h
    obtain ⟨-, -, hqueue, hwindows⟩ := s.purgeEntry_frame ⟨s.long.cursor, hrun.2⟩
    exact (State.advanceWalk_settles _ _).after hqueue hwindows
  next => exact .of_same (by cases h; rfl)

theorem execReownStep_settles (h : execReownStep s = .next t) : Settles s t := by
  unfold execReownStep at h
  split at h
  next hrun =>
    cases h
    exact (State.advanceWalk_settles _ _).after (by rw [State.reownEntry_eq]) (by rw [State.reownEntry_eq])
  next => exact .of_same (by cases h; rfl)

theorem execWalkEndAborted_settles (h : execWalkEndAborted s = .next t) : Settles s t := by
  unfold execWalkEndAborted at h
  (repeat' split at h) <;> cases h
  · exact .of_raise (u := s.putLong s.long.ended) rfl rfl _ rfl
  · exact .of_raise (u := s.putLong s.long.ended) rfl rfl _ rfl
  · exact .of_same rfl
  · exact .of_same rfl

theorem execResumeStep_settles (h : execResumeStep s = .next t) : Settles s t := by
  unfold execResumeStep at h
  split at h <;> cases h
  · exact .of_raise (u := (s.putSweep (s.sweep.restartTimer s.now)).putLong .cold) rfl rfl _ rfl
  · exact .of_same rfl

theorem execSelRise_settles (h : execSelRise s = .next t) : Settles s t := by
  unfold execSelRise at h
  split at h
  · exact .of_same (by cases h; rfl)
  · split at h <;> cases h
    · exact .of_raise (by rfl) (by rfl) _ rfl
    · exact .of_same rfl

/-- R149: a fetch marks at most 8 records. -/
theorem fetchEventsBody_cases (n : Byte) (s : State) :
    (fetchEventsBody n s).state = s
    ∨ n.toNat ≤ 8 ∧ (fetchEventsBody n s).state = s.putQueue (s.queue.markFetched n.toNat) := by
  unfold fetchEventsBody
  split
  next => exact .inl rfl
  next h => exact .inr ⟨by omega, rfl⟩

/-- R152: an acknowledgement removes records that the queue holds. -/
theorem ackEventsBody_cases (n : BitVec 16) (s : State) :
    (ackEventsBody n s).state = s
    ∨ ∃ p, p < s.queue.records.length ∧ (ackEventsBody n s).state = s.putQueue (s.queue.acknowledge p) := by
  unfold ackEventsBody
  split
  · exact .inl rfl
  · split
    next r hr =>
      split
      · exact .inr ⟨_, (List.getElem?_eq_some_iff.mp hr).1, rfl⟩
      · exact .inl rfl
    next => exact .inl rfl

/-- What the queue can do in one happening: settle events, be emptied, be marked by a fetch, or lose acknowledged
records. -/
theorem exec_queue_cases {c : Instr} (h : exec c s = .next t) :
    Settles s t ∨ (∃ n, t.queue = ⟨[], n, 0⟩) ∨ (∃ n, n ≤ 8 ∧ t.queue = s.queue.markFetched n)
    ∨ ∃ p, p < s.queue.records.length ∧ t.queue = s.queue.acknowledge p := by
  by_cases hf : Field.queue ∈ touched c
  · cases c <;> simp [touched] at hf
    case coldReset => exact .inr (.inl ⟨0, by rw [execColdReset_frame h]; rfl⟩)
    case admission => exact .inl (execAdmission_settles h)
    case send => exact .inl (execSend_settles h)
    case downstreamResponse => exact .inl (execDownstreamResponse_settles h)
    case deadlineExpiry =>
      rw [exec, execDeadlineExpiry] at h
      (repeat' split at h) <;> cases h
      · exact .inl ((State.timeOut_settles _ _).after rfl rfl)
      · exact .inl (.of_same rfl)
      · exact .inl (.of_same rfl)
    case forcedTimeout =>
      rw [exec, execForcedTimeout] at h
      split at h <;> cases h
      · exact .inl (State.timeOut_settles _ _)
      · exact .inl (.of_same rfl)
    case sweepStep => exact .inl (execSweepStep_settles h)
    case purgeStep => exact .inl (execPurgeStep_settles h)
    case reownStep => exact .inl (execReownStep_settles h)
    case walkEndAborted => exact .inl (execWalkEndAborted_settles h)
    case clearStep =>
      rw [exec, execClearStep] at h
      split at h <;> cases h
      · exact .inr (.inl ⟨s.queue.nextSequence, rfl⟩)
      · exact .inl (.of_same rfl)
    case resumeStep => exact .inl (execResumeStep_settles h)
    case selRise => exact .inl (execSelRise_settles h)
    case fetchEvents n =>
      rcases runCommand_part State.queue (fun _ _ _ => rfl) h with h | h
      · exact .inl (.of_same h)
      · rcases fetchEventsBody_cases n s with hb | ⟨hn, hb⟩ <;> rw [hb] at h
        · exact .inl (.of_same h)
        · exact .inr (.inr (.inl ⟨_, hn, h⟩))
    case ackEvents n =>
      rcases runCommand_part State.queue (fun _ _ _ => rfl) h with h | h
      · exact .inl (.of_same h)
      · rcases ackEventsBody_cases n s with hb | ⟨p, hp, hb⟩ <;> rw [hb] at h
        · exact .inl (.of_same h)
        · exact .inr (.inr (.inr ⟨p, hp, h⟩))
  · exact .inl (.of_same (exec_same h hf))

/-- Settles O53: each of the four ways in which a happening can move the queue keeps its laws. -/
theorem stepsKeepTheEventQueueLaws : Obligations.StepsKeepTheEventQueueLaws := by
  intro s t hs h
  refine step_keeps (P := fun s => s.queue.Lawful) (fun _ _ h => h) (fun _ _ h => h) ?_ hs h
  intro c s t hs h
  rcases exec_queue_cases h with h | ⟨n, h⟩ | ⟨n, hn, h⟩ | ⟨p, hp, h⟩
  · exact h.keeps hs
  · exact h ▸ EventQueue.lawful_empty n
  · exact h ▸ hs.mark hn
  · exact h ▸ hs.acknowledge hp

end Sys2Proof.Machine

/-! What traffic can do to a gate, and what the judgement of a request can come to. -/

namespace Sys2Proof.Machine

set_option Elab.async false

variable {s t : State} {r : Request} {g g' g'' : Gate}

/-! ### The gate -/

/-- What traffic leaves of a gate: the configuration set for it, and its laws. -/
structure Gate.Moves (g g' : Gate) : Prop where
  privileged : g'.privileged = g.privileged
  threshold : g'.tripThreshold = g.tripThreshold
  budgetOn : g'.budgetOn = g.budgetOn
  exhaust : g'.exhaust = g.exhaust
  lawful : g.Lawful → g'.Lawful

theorem Gate.Moves.refl (g : Gate) : g.Moves g := ⟨rfl, rfl, rfl, rfl, id⟩

theorem Gate.Moves.trans (h : g.Moves g') (h' : g'.Moves g'') : g.Moves g'' :=
  ⟨h'.privileged.trans h.privileged, h'.threshold.trans h.threshold, h'.budgetOn.trans h.budgetOn,
    h'.exhaust.trans h.exhaust, h'.lawful ∘ h.lawful⟩

/-- A reload moves the pair alone, and takes both of its amounts from the pair. -/
theorem Gate.reload_cases (g : Gate) (i : Initiator) :
    (g.reload i).1 = g ∨ (g.reload i).1 = { g with remaining := g.next, next := 0 } := by
  unfold Gate.reload
  split
  · exact .inr rfl
  · exact .inl rfl

theorem Gate.reload_moves (g : Gate) (i : Initiator) : g.Moves (g.reload i).1 := by
  rcases g.reload_cases i with h | h <;> rw [h]
  · exact .refl g
  · exact ⟨rfl, rfl, rfl, rfl, fun hg => ⟨hg.threshold, hg.count, hg.next, by simp⟩⟩

theorem Gate.charge_moves (g : Gate) (n : Nat) : g.Moves (g.charge n) :=
  ⟨rfl, rfl, rfl, rfl, fun hg => ⟨hg.threshold, hg.count, lt_of_le_of_lt (Nat.sub_le _ _) hg.remaining, hg.next⟩⟩

theorem Gate.setState_moves (g : Gate) (st : GateState) : g.Moves { g with state := st } :=
  ⟨rfl, rfl, rfl, rfl, fun hg => ⟨hg.threshold, hg.count, hg.remaining, hg.next⟩⟩

theorem Gate.setCount_moves (g : Gate) {n : Nat} (hn : n ≤ 255) : g.Moves { g with tripCount := n } :=
  ⟨rfl, rfl, rfl, rfl, fun hg => ⟨hg.threshold, hn, hg.remaining, hg.next⟩⟩

theorem Gate.tripStep_moves (g : Gate) (i : Initiator) (v : Verdict) : g.Moves (g.tripStep i v).1 := by
  have hcount : min Config.countMax (g.tripCount + 1) ≤ 255 := Nat.min_le_left _ _
  unfold Gate.tripStep
  split
  · simp only []
    split
    · exact (g.setCount_moves hcount).trans (Gate.setState_moves _ .shut)
    · exact g.setCount_moves hcount
  · exact .refl g

theorem Gate.countStep_moves (g : Gate) (i : Initiator) (refused claimed : Bool) :
    g.Moves (g.countStep i refused claimed).1 :=
  ⟨rfl, rfl, rfl, rfl, fun hg => ⟨hg.threshold, hg.count, hg.remaining, hg.next⟩⟩

/-! ### The budget step -/

/-- R60: the budget step moves the gate, raises events, and may make the verdict a refusal; a request it does not hold
leaves the gate in its state. -/
theorem Judgement.budgetStep_spec (j : Judgement) (r : Request) :
    j.gate.Moves (j.budgetStep r).1.gate
    ∧ ((j.budgetStep r).2 = false → (j.budgetStep r).1.gate.state = j.gate.state)
    ∧ ((j.budgetStep r).1.verdict = j.verdict ∨ (j.budgetStep r).1.verdict = .refuse .budget)
    ∧ (j.budgetStep r).1.key = j.key ∧ (j.budgetStep r).1.granted = j.granted
    ∧ (j.budgetStep r).1.claimed = j.claimed ∧ (j.budgetStep r).1.audited = j.audited := by
  have hreload := j.gate.reload_moves r.initiator
  have hstate (g : Gate) : (g.reload r.initiator).1.state = g.state := by
    rcases g.reload_cases r.initiator with h | h <;> rw [h]
  unfold Judgement.budgetStep
  split
  · simp only []
    split
    · split
      · exact ⟨hreload.trans (Gate.setState_moves _ .held), nofun, .inl rfl, rfl, rfl, rfl, rfl⟩
      · exact ⟨hreload, fun _ => hstate _, .inr rfl, rfl, rfl, rfl, rfl⟩
    · refine ⟨(hreload.trans (Gate.charge_moves _ _)).trans (Gate.reload_moves _ _), fun _ => ?_, .inl rfl, rfl, rfl,
        rfl, rfl⟩
      exact (hstate _).trans (hstate _)
  · exact ⟨.refl _, fun _ => rfl, .inl rfl, rfl, rfl, rfl, rfl⟩

/-! ### The claim and audit steps -/

/-- R63, R64: the claim step leaves a verdict that is not due to claim. -/
theorem State.claimStep_of_ne {j : Judgement} (h : j.verdict ≠ .claimDue) : s.claimStep r j = j := by
  unfold State.claimStep
  split
  next hv _ => exact absurd hv h
  next => rfl

/-- R63: a due claim takes the FREE way that placement finds. -/
theorem State.claimStep_placed {j : Judgement} {key : Key} {e : EntryIndex} (hv : j.verdict = .claimDue)
    (hkey : j.key = some key) (he : s.freeWay key = some e) :
    s.claimStep r j = { j with
      verdict := .pass
      claimed := some e
      events := j.events ++
        if (s.window key.window).reportLearning then [.learned r.initiator key.window r.addr e] else [] } := by
  simp only [State.claimStep, hv, hkey, he]

/-- R64: a due claim whose bucket is full takes the window's full action. -/
theorem State.claimStep_full {j : Judgement} {key : Key} (hv : j.verdict = .claimDue) (hkey : j.key = some key)
    (he : s.freeWay key = none) :
    s.claimStep r j = { j with
      verdict := if (s.window key.window).fullAction = .refuse then .refuse .tableFull else .pass
      events := j.events ++ [.learnFull r.initiator key.window r.addr] } := by
  simp only [State.claimStep, hv, hkey, he]

/-- The claim step moves no gate. -/
@[simp] theorem State.claimStep_gate (s : State) (r : Request) (j : Judgement) : (s.claimStep r j).gate = j.gate := by
  unfold State.claimStep
  split
  · simp only []
    split <;> rfl
  · rfl

/-- R66: the audit step leaves what passes. -/
theorem Judgement.auditStep_of_pass {j : Judgement} (h : j.verdict = .pass) : j.auditStep = j := by
  unfold Judgement.auditStep
  rw [h]

/-- R66: the audit step softens a refusal of a LISTEN gate. -/
theorem Judgement.auditStep_listen {j : Judgement} {reason : Reason} (hv : j.verdict = .refuse reason)
    (hg : j.gate.state = .listen) :
    j.auditStep = { j with verdict := .pass, audited := some reason, granted := none } := by
  unfold Judgement.auditStep
  rw [hv]
  exact if_pos hg

/-- R66: the audit step leaves a refusal of another gate. -/
theorem Judgement.auditStep_of_ne_listen {j : Judgement} (hg : j.gate.state ≠ .listen) : j.auditStep = j := by
  unfold Judgement.auditStep
  split
  · exact if_neg hg
  · rfl

/-- The audit step makes no claim, moves no gate, and grants nothing new. -/
theorem Judgement.auditStep_spec (j : Judgement) :
    j.auditStep.gate = j.gate ∧ j.auditStep.key = j.key ∧ j.auditStep.claimed = j.claimed
    ∧ j.auditStep.events = j.events
    ∧ (j.auditStep.granted = j.granted ∨ j.auditStep.granted = none)
    ∧ (j.verdict = .pass → j.auditStep.verdict = .pass)
    ∧ (j.verdict ≠ .claimDue → j.auditStep.verdict ≠ .claimDue) := by
  unfold Judgement.auditStep
  split
  next hv => split <;> simp_all
  next => simp

/-! ### The judgement as a whole -/

/-- R57: a SHUT gate refuses. -/
theorem State.judge_of_shut (h : (s.gate r.initiator).state = .shut) :
    s.judge r = (.start (.refuse .gateShut) (s.findKey r.addr) (s.gate r.initiator), false) :=
  if_pos h

/-- R56: a privileged gate that is not SHUT passes. -/
theorem State.judge_of_privileged (h : (s.gate r.initiator).state ≠ .shut)
    (hp : (s.gate r.initiator).privileged = true) :
    s.judge r = (.start .pass none (s.gate r.initiator), false) :=
  (if_neg h).trans (if_pos hp)

/-- The judgement of a request whose budget step is known, and does not hold it. -/
theorem State.judge_of_budgetStep {j : Judgement} (h : (s.gate r.initiator).state ≠ .shut)
    (hp : (s.gate r.initiator).privileged = false)
    (hj : (s.windowStep r (s.gate r.initiator)).budgetStep r = (j, false)) :
    s.judge r = ((s.claimStep r j).auditStep, false) := by
  unfold State.judge
  simp only [h, hp, hj, if_false, Bool.false_eq_true]

/-- The judgement of a request that the budget step holds. -/
theorem State.judge_of_hold {j : Judgement} (h : (s.gate r.initiator).state ≠ .shut)
    (hp : (s.gate r.initiator).privileged = false)
    (hj : (s.windowStep r (s.gate r.initiator)).budgetStep r = (j, true)) : s.judge r = (j, true) := by
  unfold State.judge
  simp only [h, hp, hj, if_false, if_true, Bool.false_eq_true]

/-- A judgement is that of a SHUT gate, of a privileged one, of a held request, or comes of the claim and audit steps. -/
theorem State.judge_cases (s : State) (r : Request) :
    let g := s.gate r.initiator
    let b := (s.windowStep r g).budgetStep r
    (g.state = .shut ∧ s.judge r = (.start (.refuse .gateShut) (s.findKey r.addr) g, false))
    ∨ (g.state ≠ .shut ∧ g.privileged = true ∧ s.judge r = (.start .pass none g, false))
    ∨ (g.state ≠ .shut ∧ g.privileged = false ∧ b.2 = true ∧ s.judge r = (b.1, true))
    ∨ (g.state ≠ .shut ∧ g.privileged = false ∧ b.2 = false ∧ s.judge r = ((s.claimStep r b.1).auditStep, false)) := by
  intro g b
  by_cases hshut : g.state = .shut
  · exact .inl ⟨hshut, State.judge_of_shut hshut⟩
  · cases hp : g.privileged with
    | true => exact .inr (.inl ⟨hshut, rfl, State.judge_of_privileged hshut hp⟩)
    | false =>
      cases hb : b.2 with
      | true => exact .inr (.inr (.inl ⟨hshut, rfl, rfl, State.judge_of_hold hshut hp (Prod.ext rfl hb)⟩))
      | false => exact .inr (.inr (.inr ⟨hshut, rfl, rfl, State.judge_of_budgetStep hshut hp (Prod.ext rfl hb)⟩))

/-- The judgement moves the gate, and leaves it in its state unless it holds the request. -/
theorem State.judge_gate (s : State) (r : Request) : (s.gate r.initiator).Moves (s.judge r).1.gate := by
  have hstart := (s.windowStep_start r (s.gate r.initiator)).1
  have hbudget := ((s.windowStep r (s.gate r.initiator)).budgetStep_spec r).1
  rw [hstart] at hbudget
  rcases s.judge_cases r with ⟨-, h⟩ | ⟨-, -, h⟩ | ⟨-, -, -, h⟩ | ⟨-, -, -, h⟩ <;> rw [h]
  · exact .refl _
  · exact .refl _
  · exact hbudget
  · rw [(Judgement.auditStep_spec _).1, State.claimStep_gate]
    exact hbudget

/-- R59: the entry granted is one that the lookup finds. -/
theorem State.windowStep_granted_some {e : EntryIndex} (h : (s.windowStep r g).granted = some e) :
    ∃ key, s.lookup key = some e := by
  have htable (key : Key) (h : (s.tableStep r key g).granted = some e) : ∃ key, s.lookup key = some e := by
    unfold State.tableStep at h
    split at h
    · exact absurd h nofun
    next e' he =>
      simp only [] at h
      split at h
      · exact ⟨key, he.trans h⟩
      · exact absurd h nofun
  unfold State.windowStep at h
  split at h
  · split at h <;> exact absurd h nofun
  · split at h
    · exact absurd h nofun
    · exact absurd h nofun
    · exact htable _ h
    · exact htable _ h

/-- What an outcome can do to the table: the entry of a claim made is a FREE way of the unlisted granule's bucket, and
then no entry is granted; an entry granted is one that the lookup finds. And no claim is due any more. -/
structure State.Judged (s : State) (r : Request) (j : Judgement) : Prop where
  settled : j.verdict ≠ .claimDue
  key : j.key = none ∨ j.key = s.findKey r.addr
  claim : ∀ e, j.claimed = some e → j.verdict = .pass ∧ j.granted = none ∧ r.kind = .write
    ∧ ∃ key, j.key = some key ∧ s.findKey r.addr = some key ∧ s.lookup key = none ∧ s.freeWay key = some e
  granted : ∀ e, j.granted = some e → ∃ key, s.lookup key = some e

theorem State.judge_judged (h : (s.judge r).2 = false) : s.Judged r (s.judge r).1 := by
  rcases s.judge_cases r with ⟨-, hj⟩ | ⟨-, -, hj⟩ | ⟨-, -, -, hj⟩ | ⟨-, -, -, hj⟩
  · rw [hj]
    exact ⟨nofun, .inr rfl, nofun, nofun⟩
  · rw [hj]
    exact ⟨nofun, .inl rfl, nofun, nofun⟩
  · rw [hj] at h
    cases h
  · rw [hj]
    have hkey := s.windowStep_key r (s.gate r.initiator)
    obtain ⟨-, -, hclaimed, -⟩ := s.windowStep_start r (s.gate r.initiator)
    have hgranted (e : EntryIndex) := s.windowStep_granted_some (r := r) (g := s.gate r.initiator) (e := e)
    have hdue := s.windowStep_claimDue (r := r) (g := s.gate r.initiator)
    have hnone := s.windowStep_granted r (s.gate r.initiator)
    generalize s.windowStep r (s.gate r.initiator) = w at *
    obtain ⟨-, -, hverdict, hbkey, hbgranted, hbclaimed, -⟩ := w.budgetStep_spec r
    generalize w.budgetStep r = b at *
    by_cases hb : b.1.verdict = .claimDue
    · have hw : w.verdict = .claimDue := by
        rcases hverdict with hv | hv
        · rwa [← hv]
        · rw [hb] at hv; cases hv
      obtain ⟨key, hfind, -, hlookup, hwrite⟩ := hdue hw
      have hk : b.1.key = some key := hbkey.trans (hkey.trans hfind)
      have hg : b.1.granted = none := hbgranted.trans (hnone (by simp [hw]))
      cases hway : s.freeWay key with
      | some e =>
        rw [State.claimStep_placed hb hk hway, Judgement.auditStep_of_pass rfl]
        refine ⟨nofun, .inr (hk.trans hfind.symm), fun e' he' => ?_, fun e' he' => ?_⟩
        · obtain rfl := Option.some.inj he'
          exact ⟨rfl, hg, hwrite, key, hk, hfind, hlookup, hway⟩
        · exact absurd (hg.symm.trans he') nofun
      | none =>
        rw [State.claimStep_full hb hk hway]
        obtain ⟨-, hak, hac, -, hag, -, hav⟩ := Judgement.auditStep_spec { b.1 with
          verdict := if (s.window key.window).fullAction = .refuse then .refuse .tableFull else .pass
          events := b.1.events ++ [.learnFull r.initiator key.window r.addr] }
        refine ⟨hav (by simp only; split <;> nofun), .inr (hak.trans (hk.trans hfind.symm)), fun e he => ?_,
          fun e he => ?_⟩
        · rw [hac] at he
          exact absurd ((hbclaimed.trans hclaimed).symm.trans he) nofun
        · rcases hag with hag | hag <;> rw [hag] at he
          · exact absurd (hg.symm.trans he) nofun
          · cases he
    · rw [State.claimStep_of_ne hb]
      obtain ⟨-, hak, hac, -, hag, -, hav⟩ := b.1.auditStep_spec
      refine ⟨hav hb, .inr (hak.trans (hbkey.trans hkey)), fun e he => ?_, fun e he => ?_⟩
      · rw [hac] at he
        exact absurd ((hbclaimed.trans hclaimed).symm.trans he) nofun
      · rcases hag with hag | hag <;> rw [hag] at he
        · exact hgranted e (hbgranted.symm.trans he)
        · cases he

end Sys2Proof.Machine

/-! Gates, lanes, the frame receiver and the policy: what each command can do to them. -/

namespace Sys2Proof.Machine

set_option Elab.async false

variable {s t : State} {r : Request} {k : SlotNo} {i : Initiator}

/-! ### Gates -/

/-- One gate replaced by what traffic leaves of it. -/
theorem State.gate_moves_of_self {i : Initiator} (hself : (s.gate i).Moves (t.gate i))
    (hothers : ∀ j, j ≠ i → t.gate j = s.gate j) (j : Initiator) : (s.gate j).Moves (t.gate j) := by
  by_cases hj : j = i
  · subst hj
    exact hself
  · rw [hothers j hj]
    exact .refl _

/-- An admission moves its own gate, and no other. -/
theorem State.admitRequest_gate (s : State) (r : Request) (k : SlotNo) (j : Initiator) :
    (s.gate j).Moves ((s.admitRequest r k).gate j) := by
  rcases s.admitRequest_cases r k with h | ⟨-, h⟩ | ⟨-, h⟩ <;> rw [h]
  · obtain ⟨hadmitted, -, -, -, hgate, -⟩ := s.answerMalformed_spec r k
    refine State.gate_moves_of_self ?_ hadmitted.gates j
    rw [hgate]
    exact (s.gate r.initiator).countStep_moves r.initiator false false
  · have hself : (s.holdRequest r (s.judge r).1).gate r.initiator = (s.judge r).1.gate := by
      simp [State.holdRequest]
    refine State.gate_moves_of_self (i := r.initiator) ?_ (fun j hj => ?_) j
    · rw [hself]
      exact s.judge_gate r
    · simp [State.holdRequest, State.gate_putGate_of_ne _ _ _ _ hj]
  · obtain ⟨hadmitted, -, -, -, hgate, -⟩ := s.outcome_spec r (s.judge r).1 k
    refine State.gate_moves_of_self ?_ hadmitted.gates j
    rw [hgate]
    exact ((s.judge_gate r).trans (Gate.tripStep_moves ..)).trans (Gate.countStep_moves ..)

/-- Gates that stay. -/
theorem State.gate_moves_of_same (h : t.gates = s.gates) (j : Initiator) : (s.gate j).Moves (t.gate j) := by
  rw [show t.gate j = s.gate j by rw [State.gate, h, State.gate]]
  exact .refl _

/-- What is not a management command or cold reset only moves gates. -/
theorem exec_moves_gate {c : Instr} (hframe : frameOf c = none) (hreset : c ≠ .coldReset) (h : exec c s = .next t)
    (j : Initiator) : (s.gate j).Moves (t.gate j) := by
  by_cases hf : Field.gates ∈ touched c
  · cases c <;> simp [touched, frameOf] at hf hframe
    case coldReset => exact absurd rfl hreset
    case admission =>
      rcases execAdmission_cases h with rfl | ⟨r, k, -, -, rfl⟩
      · exact .refl _
      · exact s.admitRequest_gate r k j
    case clearStep =>
      rw [exec, execClearStep] at h
      split at h <;> cases h
      · have hclear : s.clear.gate j = { s.gate j with tripCount := 0 } := by simp [State.clear, State.gate]
        rw [hclear]
        exact Gate.setCount_moves _ (by decide)
      · exact .refl _
  · exact State.gate_moves_of_same (exec_same h hf) j

/-- R80: the cold gate is lawful. -/
theorem Gate.lawful_cold : Gate.cold.Lawful := ⟨by decide, by decide, by decide, by decide⟩

theorem State.gatesLawful_putGate (hs : s.gatesLawful) {g : Gate} (hg : g.Lawful) : (s.putGate i g).gatesLawful := by
  intro j
  rw [State.gate_putGate]
  split
  · exact hg
  · exact hs j

theorem setGateBody_keeps_gates (hs : s.gatesLawful) (i st : Byte) : (setGateBody i st s).state.gatesLawful := by
  unfold setGateBody
  split
  next i st _ _ =>
    have hg := hs i
    refine State.gatesLawful_putGate hs ⟨hg.threshold, ?_, hg.remaining, hg.next⟩
    cases st
    · exact Nat.zero_le _
    · exact Nat.zero_le _
    · exact hg.count
    · exact hg.count
  next => exact hs

theorem setGateConfigBody_keeps_gates (hs : s.gatesLawful) (i p n b x : Byte) :
    (setGateConfigBody i p n b x s).state.gatesLawful := by
  unfold setGateConfigBody
  split
  next i p b x _ _ _ _ =>
    have hg := hs i
    exact State.gatesLawful_putGate hs ⟨Nat.le_of_lt_succ n.isLt, hg.count, hg.remaining, hg.next⟩
  next => exact hs

theorem loadBudgetBody_keeps_gates (hs : s.gatesLawful) (i : Byte) (r n : BitVec 32) :
    (loadBudgetBody i r n s).state.gatesLawful := by
  unfold loadBudgetBody
  split
  next i _ =>
    have hg := hs i
    exact State.gatesLawful_putGate hs ⟨hg.threshold, hg.count, r.isLt, n.isLt⟩
  next => exact hs

theorem readCountersBody_keeps_gates (hs : s.gatesLawful) (i c : Byte) : (readCountersBody i c s).state.gatesLawful := by
  unfold readCountersBody
  split
  next i _ _ =>
    have hg := hs i
    exact State.gatesLawful_putGate hs ⟨hg.threshold, hg.count, hg.remaining, hg.next⟩
  next => exact hs
  next => exact hs

theorem exec_keeps_gates {c : Instr} (hs : s.gatesLawful) (h : exec c s = .next t) : t.gatesLawful := by
  cases hframe : frameOf c with
  | none =>
    by_cases hreset : c = .coldReset
    · subst hreset
      rw [execColdReset_frame h]
      exact fun j => (State.gate_reset j).symm ▸ Gate.lawful_cold
    · exact fun j => (exec_moves_gate hframe hreset h j).lawful (hs j)
  | some f =>
    by_cases hf : Field.gates ∈ touched c
    · have hbody {c' : Command} {body : State → Answer} (h : runCommand c' c body s = .next t)
          (hb : (body s).state.gatesLawful) : t.gatesLawful :=
        runCommand_keeps (P := fun gates : Vec Gate 16 => ∀ i, (gates.get i).Lawful) (part := State.gates)
          (fun _ _ _ => rfl) h hs hb
      cases c <;> simp [touched, frameOf] at hf hframe
      case setGate => exact hbody h (setGateBody_keeps_gates hs _ _)
      case setGateConfig => exact hbody h (setGateConfigBody_keeps_gates hs _ _ _ _ _)
      case loadBudget => exact hbody h (loadBudgetBody_keeps_gates hs _ _ _)
      case readCounters => exact hbody h (readCountersBody_keeps_gates hs _ _)
    · exact fun j => (State.gate_moves_of_same (exec_same h hf) j).lawful (hs j)

/-! ### Lanes -/

/-- R101: a request presented stands in the lane of its initiator, an admission empties its own lane, and no other command
but cold reset reaches a lane. -/
theorem exec_keeps_lanes {c : Instr} (hs : s.lanesLawful) (h : exec c s = .next t) : t.lanesLawful := by
  by_cases hf : Field.lanes ∈ touched c
  · cases c <;> simp [touched] at hf
    case coldReset =>
      rw [execColdReset_frame h]
      intro i r hr
      exact absurd ((State.lane_reset i).symm.trans hr) nofun
    case presentRequest r =>
      rw [exec, execPresentRequest] at h
      split at h <;> cases h
      · intro i q hq
        rw [State.lane_putLane] at hq
        split at hq
        next hi =>
          obtain rfl := Option.some.inj hq
          exact hi.symm
        next => exact hs i q hq
      · exact hs
    case admission =>
      rcases execAdmission_cases h with rfl | ⟨r, k, -, -, rfl⟩
      · exact hs
      · have hadmitted (hadmitted : AdmittedTo s (s.admitRequest r k) r.initiator k) :
            (s.admitRequest r k).lanesLawful := by
          intro j q hq
          by_cases hj : j = r.initiator
          · rw [hj, hadmitted.lane] at hq
            cases hq
          · rw [hadmitted.lanes j hj] at hq
            exact hs j q hq
        rcases s.admitRequest_cases r k with h | ⟨-, h⟩ | ⟨-, h⟩
        · exact hadmitted (h ▸ (s.answerMalformed_spec r k).1)
        · rw [h]
          intro j q hq
          exact hs j q (by simpa [State.holdRequest] using hq)
        · exact hadmitted (h ▸ (s.outcome_spec r (s.judge r).1 k).1)
  · intro j q hq
    rw [State.lane, show t.lanes = s.lanes from exec_same h hf] at hq
    exact hs j q hq

/-! ### The port -/

/-- R160, R162: the port's law reads the port and the frames held alone. -/
theorem State.PortLawful.of_same (hs : s.PortLawful) (hp : t.port = s.port) (ho : t.passedOn = s.passedOn) :
    t.PortLawful :=
  ⟨hp ▸ hs.receiver, hp ▸ hs.idle, by rw [hp, ho]; exact hs.awaited⟩

/-- R160: a receiver that awaits no reply, while SEL is low. -/
theorem State.portLawful_of_low (hsel : t.port.selHigh = false) (hr : t.port.receiver.Lawful)
    (ha : t.port.receiver.awaiting = true → t.passedOn ≠ []) : t.PortLawful :=
  ⟨hr, by rw [hsel]; nofun, ha⟩

/-- R163: making a reply ready keeps the receiver's own law. -/
theorem Receiver.lawful_deliver {rc : Receiver} (h : rc.Lawful) (rest : List PassedOn) (reply : Reply) :
    (rc.deliver rest reply).Lawful := by
  unfold Receiver.deliver
  split
  · exact h
  · exact h

/-- R163: with no frame left, no reply is awaited once one has been made. -/
theorem Receiver.awaiting_deliver_nil (rc : Receiver) (reply : Reply) : (rc.deliver [] reply).awaiting = false := by
  unfold Receiver.deliver
  split
  · rfl
  next h =>
    unfold Receiver.awaiting
    split
    next owed bit => exact absurd rfl (h owed bit rfl)
    next => rfl

/-- R162: fixing a reply keeps the port's law. -/
theorem State.PortLawful.fixReply (hs : s.PortLawful) (reply : Reply) (store : Option Byte) :
    (s.fixReply reply store).PortLawful where
  receiver := Receiver.lawful_deliver hs.receiver _ _
  idle hsel := by
    have : s.port.receiver = .idle := hs.idle hsel
    simp [State.fixReply, this, Receiver.deliver]
  awaited ha := by
    intro hrest
    have hnil : s.passedOn.drop 1 = [] := hrest
    have hdone := Receiver.awaiting_deliver_nil s.port.receiver reply
    rw [← hnil] at hdone
    exact absurd (ha.symm.trans hdone) (by decide)

theorem Port.enterReply_receiver_lawful (p : Port) (ready : Option Reply) : (p.enterReply ready).receiver.Lawful := by
  simp [Port.enterReply, Receiver.Lawful]

/-- R161: a whole code byte leaves a lawful receiver that awaits no reply. -/
theorem Port.takeCode_spec (p : Port) (code : Byte) :
    (p.takeCode code).receiver.Lawful ∧ (p.takeCode code).receiver.awaiting = false
      ∧ (p.takeCode code).selHigh = p.selHigh := by
  unfold Port.takeCode
  split
  · exact ⟨p.enterReply_receiver_lawful _, rfl, rfl⟩
  next c _ =>
    simp only []
    split
    next hargs => exact ⟨⟨hargs.symm, by simp⟩, rfl, trivial⟩
    next hargs => exact ⟨⟨Nat.pos_of_ne_zero hargs, by simp⟩, rfl, trivial⟩

/-- R161: a whole argument byte leaves a lawful receiver that awaits no reply. -/
theorem Port.takeArgument_spec (p : Port) {c : Command} {received : List Byte} (h : received.length < c.argBytes)
    (b : Byte) :
    (p.takeArgument c received b).receiver.Lawful ∧ (p.takeArgument c received b).receiver.awaiting = false
      ∧ (p.takeArgument c received b).selHigh = p.selHigh := by
  unfold Port.takeArgument
  simp only [List.length_append, List.length_singleton]
  split
  next hargs => exact ⟨⟨by simp; omega, by simp⟩, rfl, trivial⟩
  next hargs => exact ⟨⟨by simp; omega, by simp⟩, rfl, trivial⟩

/-- R159: a bit that does not complete its byte leaves at most seven. -/
theorem arrive_inl {bits bits' : List Bool} {b : Bool} (h : arrive bits b = .inl bits') : bits'.length < 8 := by
  unfold arrive at h
  simp only [] at h
  split at h
  next hlen =>
    obtain rfl := Sum.inl.inj h
    exact hlen
  next => cases h

/-- R163: the reply begins with the start byte 0x5A, whose first bit is 0. -/
theorem Reply.bits_eq (r : Reply) :
    r.bytes.flatMap bitsOf = false :: ([true, false, true, true, false, true, false]
      ++ (r.status.code :: (r.results ++ [crc8 (r.status.code :: r.results)])).flatMap bitsOf) := rfl

/-- R163: with no filler byte owed, a ready reply begins. -/
theorem ReplyPhase.clock_start (r : Reply) :
    (ReplyPhase.filler 0 0 (some r)).clock = (false, .replying (.sending ([true, false, true, true, false, true, false]
      ++ (r.status.code :: (r.results ++ [crc8 (r.status.code :: r.results)])).flatMap bitsOf))) := by
  simp only [ReplyPhase.clock, Reply.bits_eq]

/-- R163: inside a filler byte, or with one still owed, or with no reply ready, the part drives 1. -/
theorem ReplyPhase.clock_filler {owed bit : Nat} {ready : Option Reply} (h : owed ≠ 0 ∨ bit ≠ 0 ∨ ready = none) :
    (ReplyPhase.filler owed bit ready).clock =
      (true, .replying (.filler (if bit = 7 then owed - 1 else owed) (if bit = 7 then 0 else bit + 1) ready)) := by
  simp only [ReplyPhase.clock]
  split
  next => simp at h
  next => rfl

/-- R163: an SCK cycle in REPLYING leaves a lawful receiver, which awaits a reply only if it did before. -/
theorem ReplyPhase.clock_spec {phase : ReplyPhase} (h : (Receiver.replying phase).Lawful) :
    phase.clock.2.Lawful ∧ (phase.clock.2.awaiting = true → (Receiver.replying phase).awaiting = true) := by
  cases phase with
  | sending bits =>
    cases bits with
    | nil => exact ⟨trivial, nofun⟩
    | cons b rest =>
      cases rest with
      | nil => exact ⟨trivial, nofun⟩
      | cons b' rest => exact ⟨List.cons_ne_nil _ _, nofun⟩
  | filler owed bit ready =>
    have hbit : bit < 8 := h
    by_cases hstart : owed ≠ 0 ∨ bit ≠ 0 ∨ ready = none
    · rw [ReplyPhase.clock_filler hstart]
      refine ⟨?_, ?_⟩
      · change (if bit = 7 then 0 else bit + 1) < 8
        split <;> omega
      · cases ready with
        | none => exact fun _ => rfl
        | some r => exact nofun
    · push Not at hstart
      obtain ⟨rfl, rfl, hready⟩ := hstart
      obtain ⟨r, rfl⟩ := Option.ne_none_iff_exists'.mp hready
      rw [ReplyPhase.clock_start]
      exact ⟨List.cons_ne_nil _ _, nofun⟩

theorem execSckCycle_keeps_port {b : Bool} (hs : s.PortLawful) (h : execSckCycle b s = .next t) : t.PortLawful := by
  unfold execSckCycle at h
  split at h
  · cases h
    exact hs
  next hsel =>
    have hlow : s.port.selHigh = false := by simpa using hsel
    have hlaw := hs.receiver
    simp only [] at h
    split at h
    next => cases h; exact hs
    next bits _ =>
      split at h <;> cases h
      next bits' hbits => exact State.portLawful_of_low hlow (arrive_inl hbits) nofun
      next byte _ =>
        obtain ⟨h1, h2, h3⟩ := Port.takeCode_spec { s.port with mdo := some true } byte
        exact State.portLawful_of_low (h3.trans hlow) h1 (by rw [State.putPort_port, h2]; nofun)
    next c received bits hr =>
      rw [hr] at hlaw
      split at h <;> cases h
      next bits' hbits => exact State.portLawful_of_low hlow ⟨hlaw.1, arrive_inl hbits⟩ nofun
      next byte _ =>
        obtain ⟨h1, h2, h3⟩ := Port.takeArgument_spec { s.port with mdo := some true } hlaw.1 byte
        exact State.portLawful_of_low (h3.trans hlow) h1 (by rw [State.putPort_port, h2]; nofun)
    next c received bits hr =>
      rw [hr] at hlaw
      split at h <;> cases h
      next bits' hbits => exact State.portLawful_of_low hlow ⟨hlaw.1, arrive_inl hbits⟩ nofun
      next byte _ =>
        exact State.portLawful_of_low hlow (Port.enterReply_receiver_lawful _ _) (fun _ => by simp [State.takeCheck])
    next phase hr =>
      cases h
      rw [hr] at hlaw
      obtain ⟨h1, h2⟩ := ReplyPhase.clock_spec hlaw
      exact State.portLawful_of_low hlow h1 fun ha => hs.awaited (hr ▸ h2 ha)
    next hr =>
      cases h
      exact State.portLawful_of_low hlow hlaw hs.awaited

/-- A management command takes its frame, and its body does not reach the port. -/
theorem runCommand_keeps_port {c : Command} {i : Instr} {body : State → Answer} (hs : s.PortLawful)
    (hp : (body s).state.port = s.port) (ho : (body s).state.passedOn = s.passedOn)
    (h : runCommand c i body s = .next t) : t.PortLawful := by
  rcases runCommand_cases c i body s with ⟨-, hr⟩ | ⟨-, a, ha, hr⟩ <;> rw [hr] at h <;> cases h
  · exact hs
  · rcases ha with rfl | rfl
    · exact State.PortLawful.fixReply (s := (refuse s .restarting).state) hs _ _
    · exact (hs.of_same hp ho).fixReply _ _

theorem exec_keeps_port {c : Instr} (hs : s.PortLawful) (h : exec c s = .next t) : t.PortLawful := by
  cases hframe : frameOf c with
  | some f =>
    obtain ⟨body, hexec, -, -, hp, ho⟩ := exec_body s c f.1 f.2 hframe
    exact runCommand_keeps_port hs hp ho (hexec ▸ h)
  | none =>
    by_cases hf : Field.port ∈ touched c
    · cases c <;> simp [touched, frameOf] at hf hframe
      case coldReset =>
        rw [execColdReset_frame h]
        exact ⟨trivial, fun _ => rfl, nofun⟩
      case selFall =>
        rw [exec, execSelFall] at h
        split at h <;> cases h
        next hsel =>
          refine State.portLawful_of_low rfl ?_ ?_ <;> simp [hs.idle hsel, Receiver.Lawful, Receiver.awaiting]
        next => exact hs
      case selRise =>
        have hlawful {u : State} (hport : u.port.receiver = .idle) : u.PortLawful :=
          ⟨hport ▸ trivial, fun _ => hport, by rw [hport]; nofun⟩
        rw [exec, execSelRise] at h
        split at h
        · cases h
          exact hs
        · split at h <;> cases h
          · exact hlawful (by simp)
          · exact hlawful rfl
      case sckCycle => exact execSckCycle_keeps_port hs h
      case checkMismatch code =>
        rw [exec, execCheckMismatch] at h
        split at h <;> cases h
        · exact hs.fixReply _ _
        · exact hs
      case unknownCommand code =>
        rw [exec, execUnknownCommand] at h
        split at h
        · cases h
          exact hs
        next hcode =>
          split at h
          next bits hbits =>
            have hlow : s.port.selHigh = false := by
              by_contra hsel
              have := hs.idle (by simpa using hsel)
              rw [hbits] at this
              cases this
            split at h <;> cases h
            · obtain ⟨h1, h2, h3⟩ := Port.takeCode_spec { s.port with mdo := some true } code
              exact State.portLawful_of_low (h3.trans hlow) h1 (by rw [State.putPort_port, h2]; nofun)
            · exact hs
          next =>
            cases h
            exact ⟨hs.receiver, hs.idle, hs.awaited⟩
    · by_cases ho : Field.passedOn ∈ touched c
      · exfalso
        cases c <;> simp [touched] at hf ho
      · exact hs.of_same (exec_same h hf) (exec_same h ho)

/-- Settles O55: gates, lanes and the port are kept each by its own argument. -/
theorem stepsKeepTheGateLaneAndPortLaws : Obligations.StepsKeepTheGateLaneAndPortLaws := by
  intro s t hs h
  refine step_keeps (P := fun s => s.gatesLawful ∧ s.lanesLawful ∧ s.PortLawful) ?_ ?_ ?_ hs h
  · exact fun s l h => ⟨h.1, h.2.1, h.2.2.of_same rfl rfl⟩
  · exact fun s n h => ⟨h.1, h.2.1, h.2.2.of_same rfl rfl⟩
  · exact fun c s t ⟨hg, hl, hp⟩ h => ⟨exec_keeps_gates hg h, exec_keeps_lanes hl h, exec_keeps_port hp h⟩

/-! ### The policy -/

/-- No happening of traffic, time or the port's bits sets the sweep interval. -/
theorem exec_keeps_interval {c : Instr} (hframe : frameOf c = none) (hreset : c ≠ .coldReset)
    (h : exec c s = .next t) : t.sweep.interval = s.sweep.interval := by
  by_cases hf : Field.sweep ∈ touched c
  · cases c <;> simp [touched, frameOf] at hf hframe hreset
    case intervalTimerExpiry =>
      rw [exec, execIntervalTimerExpiry] at h
      split at h <;> cases h
      · simp only [State.putSweep_sweep, Sweep.request, Sweep.start]
        split <;> rfl
      · rfl
    case sweepStep =>
      rw [exec, execSweepStep] at h
      split at h <;> cases h
      · rw [State.advanceSweep_spec]
        split
        · simp only [State.sweepEntry_spec, Sweep.finish, Sweep.start]
          split <;> rfl
        · simp only [State.sweepEntry_spec]
      · rfl
    case resumeStep =>
      rw [exec, execResumeStep] at h
      split at h <;> cases h
      · simp [State.resume, Sweep.restartTimer]
      · rfl
    case timerMillisecondBoundary =>
      simp only [exec, execTimerMillisecondBoundary] at h
      split at h <;> cases h <;> rfl
  · exact congrArg Sweep.interval (exec_same h hf)

/-- What is set for the part, and stays while no command changes it. -/
structure SamePolicy (s t : State) : Prop where
  windows : t.windows = s.windows
  outside : t.outside = s.outside
  timeout : t.responseTimeout = s.responseTimeout
  interval : t.sweep.interval = s.sweep.interval
  gates : ∀ i, (s.gate i).Moves (t.gate i)

/-- Only a management command or cold reset changes what is set. -/
theorem exec_samePolicy {c : Instr} (hframe : frameOf c = none) (hreset : c ≠ .coldReset) (h : exec c s = .next t) :
    SamePolicy s t := by
  have untouched (f : Field) (hf : f = .windows ∨ f = .outside ∨ f = .responseTimeout) : f ∉ touched c := by
    rcases hf with rfl | rfl | rfl <;> cases c <;> simp [touched, frameOf] at hframe hreset ⊢
  exact ⟨exec_same h (untouched .windows (.inl rfl)), exec_same h (untouched .outside (.inr (.inl rfl))),
    exec_same h (untouched .responseTimeout (.inr (.inr rfl))), exec_keeps_interval hframe hreset h,
    exec_moves_gate hframe hreset h⟩

/-- What falls due is no management command and no cold reset. -/
theorem dueBy_traffic {n : Nat} {c : Instr} (h : s.dueBy n = some c) : frameOf c = none ∧ c ≠ .coldReset := by
  rcases dueBy_cases h with rfl | ⟨k, rfl⟩ | ⟨k, rfl⟩ | rfl | rfl <;> exact ⟨rfl, by simp⟩

/-- Settles O59: a step takes a command that is none of these, takes what is due, or passes a tick. -/
theorem policyChangesOnlyByCommand : Obligations.PolicyChangesOnlyByCommand := by
  intro s t h hcommand
  have hpolicy : SamePolicy s t := by
    rcases step_cases h with ⟨c, rest, hp, hc⟩ | ⟨-, c, hdue, hc⟩ | ⟨-, -, rfl⟩
    · obtain ⟨hframe, hreset⟩ := hcommand c rest hp
      obtain ⟨hwindows, houtside, htimeout, hinterval, hgates⟩ := exec_samePolicy hframe hreset hc
      exact ⟨hwindows, houtside, htimeout, hinterval, hgates⟩
    · obtain ⟨hframe, hreset⟩ := dueBy_traffic hdue
      exact exec_samePolicy hframe hreset hc
    · exact ⟨rfl, rfl, rfl, rfl, fun _ => .refl _⟩
  obtain ⟨hwindows, houtside, htimeout, hinterval, hgates⟩ := hpolicy
  exact ⟨hwindows, houtside, htimeout, hinterval, fun i =>
    ⟨(hgates i).privileged, (hgates i).threshold, (hgates i).budgetOn, (hgates i).exhaust⟩⟩

end Sys2Proof.Machine

/-! The tracker and the table: everything that an admission, a sending, a departure and a timeout can do to slots, lists and
entries. -/

namespace Sys2Proof.Machine

set_option Elab.async false

variable {s t : State} {r : Request} {k : SlotNo} {a : SlotAccess} {link : Option EntryIndex} {d : Option Nat}

/-! ### An admission -/

/-- R12, R67: with no claim made, the table's part of the outcome touches the entry granted and no other. -/
theorem State.entry_tableOutcome_of_granted {j : Judgement} (h : j.claimed = none) (i : Initiator) (k : SlotNo)
    (e : EntryIndex) :
    (s.tableOutcome i j k).entry e = if j.granted = some e then (s.entry e).touch else s.entry e := by
  unfold State.tableOutcome
  rw [h]
  cases j.granted with
  | none => simp
  | some e' =>
    simp only [State.entry_putEntry, Option.some.injEq, eq_comm (a := e)]
    split
    next he => rw [he]
    next => rfl

/-- R63, R67: with no entry granted, the table's part of the outcome places the claim and changes no other entry. -/
theorem State.entry_tableOutcome_of_claimed {j : Judgement} {key : Key} {e : EntryIndex} (h : j.claimed = some e)
    (hkey : j.key = some key) (hgranted : j.granted = none) (i : Initiator) (k : SlotNo) (e' : EntryIndex) :
    (s.tableOutcome i j k).entry e' = if e' = e then s.newClaim i key k else s.entry e' := by
  simp only [State.tableOutcome, h, hkey, hgranted, State.entry_putEntry]

/-- R55, R67, R68: what becomes of the slot an admission takes, of the forward queue and of the table: the request is
answered at once; or it passes, touching the entry granted; or it passes and claims its granule. -/
inductive State.Takes (s t : State) (r : Request) (k : SlotNo) : Prop
  | answered (response : Response) (hslot : t.slot k = .ready (requestAccess r) (requestPayload r) response false)
      (hforward : t.forwardQueue = s.forwardQueue) (htable : t.table = s.table)
  | passed (granted : Option EntryIndex) (hslot : t.slot k = .queued (requestAccess r) (requestPayload r) none)
      (hforward : t.forwardQueue = s.forwardQueue ++ [k])
      (hentry : ∀ e, t.entry e = if granted = some e then (s.entry e).touch else s.entry e)
  | claimed (key : Key) (e : EntryIndex)
      (hslot : t.slot k = .queued (requestAccess r) (requestPayload r) (some e))
      (hforward : t.forwardQueue = s.forwardQueue ++ [k])
      (hwrite : r.kind = .write) (hfind : s.findKey r.addr = some key) (hlookup : s.lookup key = none)
      (hway : s.freeWay key = some e)
      (hentry : ∀ e', t.entry e' = if e' = e then s.newClaim r.initiator key k else s.entry e')

/-- The tracker and the table stay. -/
structure SameTracker (s t : State) : Prop where
  slots : t.slots = s.slots
  table : t.table = s.table
  lists : t.returnLists = s.returnLists
  forward : t.forwardQueue = s.forwardQueue

theorem State.outcome_takes {j : Judgement} (hj : s.Judged r j) (k : SlotNo) : s.Takes (s.outcome r j k) r k := by
  obtain ⟨-, hslot, htable, hforward, -, -⟩ := s.outcome_spec r j k
  have hentry (e : EntryIndex) : (s.outcome r j k).entry e = (s.slotOutcome r j k).entry e := by
    rw [State.entry, htable, State.entry]
  cases hv : j.verdict with
  | claimDue => exact absurd hv hj.settled
  | refuse reason =>
    rw [State.slotOutcome_refuse s hv] at hslot htable hforward
    exact .answered _ (hslot.trans (State.slot_putSlot_self ..)) hforward htable
  | pass =>
    rw [State.slotOutcome_pass s hv] at hslot hforward hentry
    cases hc : j.claimed with
    | none =>
      refine .passed j.granted (hslot.trans ?_) hforward fun e => (hentry e).trans ?_
      · rw [State.slot_putSlot_self, hc]
      · exact State.entry_tableOutcome_of_granted hc ..
    | some e =>
      obtain ⟨-, hgranted, hwrite, key, hkey, hfind, hlookup, hway⟩ := hj.claim e hc
      refine .claimed key e (hslot.trans ?_) hforward hwrite hfind hlookup hway fun e' => (hentry e').trans ?_
      · rw [State.slot_putSlot_self, hc]
      · exact State.entry_tableOutcome_of_claimed hc hkey hgranted ..

/-- R53: everything an admission can do to the tracker and the table: nothing, or it takes a FREE slot while no RESTART
runs. -/
theorem execAdmission_takes (h : execAdmission s = .next t) :
    SameTracker s t ∨ ∃ r k, s.restarting = false ∧ s.slot k = .free ∧ AdmittedTo s t r.initiator k ∧ s.Takes t r k := by
  rcases execAdmission_cases h with rfl | ⟨r, k, hlane, hslot, rfl⟩
  · exact .inl ⟨rfl, rfl, rfl, rfl⟩
  · have hrunning : s.restarting = false := by
      by_contra hr
      simp [State.chosenLane, hr] at hlane
    have hfree := s.freeSlot_some hslot
    rcases s.admitRequest_cases r k with h | ⟨-, h⟩ | ⟨hheld, h⟩ <;> rw [h]
    · obtain ⟨hadmitted, hslot, htable, hforward, -, -⟩ := s.answerMalformed_spec r k
      exact .inr ⟨r, k, hrunning, hfree, hadmitted, .answered _ hslot hforward htable⟩
    · exact .inl (by constructor <;> simp [State.holdRequest])
    · exact .inr ⟨r, k, hrunning, hfree, (s.outcome_spec r _ k).1, State.outcome_takes (s.judge_judged hheld) k⟩

/-! ### A sending and a departure -/

/-- R112: everything a SEND can do. -/
theorem execSend_cases (h : execSend s = .next t) :
    t = s ∨ ∃ k rest a p link, s.forwardQueue = k :: rest ∧ s.slot k = .queued a p link
      ∧ ((s.restarting && s.long.drainForcing) = false ∧ t = s.sendHead k rest a p link
        ∨ (s.restarting && s.long.drainForcing) = true ∧ t = (s.sendHead k rest a p link).timeOut k) := by
  unfold execSend at h
  split at h
  · exact .inl (by cases h; rfl)
  next k rest hforward =>
    split at h
    next a p link hslot =>
      refine .inr ⟨k, rest, a, p, link, hforward, hslot, ?_⟩
      split at h <;> cases h
      next hforcing => exact .inr ⟨hforcing, rfl⟩
      next hforcing => exact .inl ⟨by simpa using hforcing, rfl⟩
    next => exact .inl (by cases h; rfl)

/-- R122: everything a DEPARTURE can do. -/
theorem execDeparture_cases (h : execDeparture s = .next t) :
    t = s ∨ ∃ i k rest a p r o, s.nextReceiver = some i ∧ s.returnList i = k :: rest ∧ s.slot k = .ready a p r o
      ∧ t = s.depart i k rest a r o := by
  unfold execDeparture at h
  split at h
  · exact .inl (by cases h; rfl)
  next i hi =>
    split at h
    · exact .inl (by cases h; rfl)
    next k rest hlist =>
      split at h
      next a p r o hslot => exact .inr ⟨i, k, rest, a, p, r, o, hi, hlist, hslot, by cases h; rfl⟩
      next => exact .inl (by cases h; rfl)

section

variable {k : SlotNo} {rest : List SlotNo} {p : Payload}

/-- R112: the slot sent waits for memory's answer. -/
theorem State.slot_sendHead (j : SlotNo) :
    (s.sendHead k rest a p link).slot j = if j = k then .outstanding a link s.newDeadline else s.slot j :=
  State.slot_putSlot (s.putForward rest) k _ j

@[simp] theorem State.entry_sendHead (e : EntryIndex) : (s.sendHead k rest a p link).entry e = s.entry e := rfl

@[simp] theorem State.returnList_sendHead (i : Initiator) :
    (s.sendHead k rest a p link).returnList i = s.returnList i := rfl

@[simp] theorem State.sendHead_forwardQueue : (s.sendHead k rest a p link).forwardQueue = rest := rfl

@[simp] theorem State.sendHead_sentDown :
    (s.sendHead k rest a p link).sentDown = s.sentDown ++ [downstreamRequest k a p] := rfl

/-- R122: the slot that leaves is freed or ORPHANED. -/
theorem State.slot_depart {i : Initiator} {resp : Response} {o : Bool} (j : SlotNo) :
    (s.depart i k rest a resp o).slot j = if j = k then (if o then .orphaned a else .free) else s.slot j :=
  State.slot_putSlot (s.putReturnList i rest) k _ j

theorem State.returnList_depart {i : Initiator} {resp : Response} {o : Bool} (j : Initiator) :
    (s.depart i k rest a resp o).returnList j = if j = i then rest else s.returnList j :=
  State.returnList_putReturnList s i rest j

end

/-! ### What reaches the outside -/

/-- Only SEND and DEPARTURE hand anything outside. -/
theorem exec_outside {c : Instr} (h : exec c s = .next t) :
    (t.sentDown = s.sentDown ∨ c = .send ∧ ∃ k q a p l, s.forwardQueue = k :: q ∧ s.slot k = .queued a p l
      ∧ t.sentDown = s.sentDown ++ [downstreamRequest k a p])
    ∧ (t.leftUp = s.leftUp ∨ c = .departure ∧ ∃ i k l a p r o, s.returnList i = k :: l ∧ s.slot k = .ready a p r o
      ∧ t.leftUp = s.leftUp ++ [upstreamResponse a r]) := by
  constructor
  · by_cases hf : Field.sentDown ∈ touched c
    · cases c <;> simp [touched] at hf
      case send =>
        rcases execSend_cases h with rfl | ⟨k, q, a, p, l, hforward, hslot, hsent⟩
        · exact .inl rfl
        · refine .inr ⟨rfl, k, q, a, p, l, hforward, hslot, ?_⟩
          rcases hsent with ⟨-, rfl⟩ | ⟨-, rfl⟩
          · rfl
          · simp
    · exact .inl (exec_same h hf)
  · by_cases hf : Field.leftUp ∈ touched c
    · cases c <;> simp [touched] at hf
      case departure =>
        rcases execDeparture_cases h with rfl | ⟨i, k, l, a, p, r, o, -, hlist, hslot, rfl⟩
        · exact .inl rfl
        · exact .inr ⟨rfl, i, k, l, a, p, r, o, hlist, hslot, rfl⟩
    · exact .inl (exec_same h hf)

/-- Settles O56: by `exec_outside`, and because neither SEND nor DEPARTURE ever falls due. -/
theorem onlySendAndDepartureReachOutside : Obligations.OnlySendAndDepartureReachOutside := by
  intro s t h
  rcases step_cases h with ⟨c, rest, hp, hc⟩ | ⟨-, c, hdue, hc⟩ | ⟨-, -, rfl⟩
  · obtain ⟨hdown, hup⟩ := exec_outside hc
    constructor
    · rcases hdown with hdown | ⟨rfl, k, q, a, p, l, hforward, hslot, hsent⟩
      · exact .inl hdown
      · exact .inr ⟨rest, k, q, a, p, l, hp, hforward, hslot, hsent⟩
    · rcases hup with hup | ⟨rfl, i, k, l, a, p, r, o, hlist, hslot, hleft⟩
      · exact .inl hup
      · exact .inr ⟨rest, i, k, l, a, p, r, o, hp, hlist, hslot, hleft⟩
  · obtain ⟨hdown, hup⟩ := exec_outside hc
    have hne : c ≠ .send ∧ c ≠ .departure := by
      rcases dueBy_cases hdue with rfl | ⟨k, rfl⟩ | ⟨k, rfl⟩ | rfl | rfl <;> simp
    exact ⟨.inl (hdown.resolve_right fun h => hne.1 h.1), .inl (hup.resolve_right fun h => hne.2 h.1)⟩
  · exact ⟨.inl rfl, .inl rfl⟩

/-! ### How a slot moves -/

/-- R107, "Slot states at a glance": the moves of a slot in a happening of state `s`, each with what it keeps of the access.
Only an admission takes a FREE slot, which RESTART stops; only a sending makes a slot OUTSTANDING, which drain forcing
prevents. -/
inductive Slot.Moves (s : State) : Slot → Slot → Prop
  | stay (x : Slot) : Moves s x x
  | unlink (x : Slot) : Moves s x x.unlink
  | queue (a : SlotAccess) (p : Payload) (l : Option EntryIndex) (h : s.restarting = false) :
      Moves s .free (.queued a p l)
  | answer (a : SlotAccess) (p : Payload) (r : Response) (h : s.restarting = false) : Moves s .free (.ready a p r false)
  | send (a : SlotAccess) (p : Payload) (l : Option EntryIndex) (h : (s.restarting && s.long.drainForcing) = false) :
      Moves s (.queued a p l) (.outstanding a l s.newDeadline)
  | force (a : SlotAccess) (p : Payload) (l : Option EntryIndex) :
      Moves s (.queued a p l) (.ready a ⟨[], []⟩ errorResponse true)
  | respond (a : SlotAccess) (l : Option EntryIndex) (d : Option Nat) (r : Response) (o : Bool) :
      Moves s (.outstanding a l d) (.ready a ⟨[], []⟩ r o)
  | unmark (a : SlotAccess) (p : Payload) (r : Response) (o : Bool) : Moves s (.ready a p r o) (.ready a p r false)
  | depart (a : SlotAccess) (p : Payload) (r : Response) (o : Bool) :
      Moves s (.ready a p r o) (if o then .orphaned a else .free)
  | free (a : SlotAccess) : Moves s (.orphaned a) .free

/-- A slot that only loses its claim link, if anything. -/
def Slot.Unlinks (x y : Slot) : Prop := y = x ∨ y = x.unlink

theorem Slot.Unlinks.moves {x y : Slot} (h : x.Unlinks y) : x.Moves s y := by
  rcases h with rfl | rfl
  · exact .stay _
  · exact .unlink _

theorem State.freeEntry_unlinks (s : State) (e : EntryIndex) (k : SlotNo) :
    (s.slot k).Unlinks ((s.freeEntry e).slot k) := by
  rw [State.slot_freeEntry]
  split
  · exact .inr rfl
  · exact .inl rfl

theorem State.voidClaim_unlinks (s : State) (a : SlotAccess) (l : Option EntryIndex) (k : SlotNo) :
    (s.slot k).Unlinks ((s.voidClaim a l).slot k) := by
  rw [State.slot_voidClaim]
  split
  · exact .inr rfl
  · exact .inl rfl

/-- Without a link to lose, a slot stays. -/
theorem Slot.Unlinks.eq_of_ready {y : Slot} {p : Payload} {resp : Response} {o : Bool}
    (h : (Slot.ready a p resp o).Unlinks y) : y = .ready a p resp o := by
  rcases h with rfl | rfl <;> rfl

/-- R118: a timeout makes its own slot READY. -/
theorem State.slot_timeOut_self (h : s.slot k = .outstanding a link d) :
    (s.timeOut k).slot k = .ready a ⟨[], []⟩ errorResponse true := by
  have hvoid := State.voidClaim_unlinks ((s.putSlot k (.ready a ⟨[], []⟩ errorResponse true)).raise
    (.responseTimeout a.initiator a.addr k)) a link k
  rw [State.slot_raise, State.slot_putSlot_self] at hvoid
  rw [State.timeOut_outstanding s h, hvoid.eq_of_ready]

/-- R118: at a timeout no other slot loses more than a link. -/
theorem State.slot_timeOut_of_ne {j : SlotNo} (hj : j ≠ k) : (s.slot j).Unlinks ((s.timeOut k).slot j) := by
  unfold State.timeOut
  split
  next a l d _ =>
    have hvoid := State.voidClaim_unlinks ((s.putSlot k (.ready a ⟨[], []⟩ errorResponse true)).raise
      (.responseTimeout a.initiator a.addr k)) a l j
    rwa [State.slot_raise, State.slot_putSlot_of_ne _ _ _ _ hj] at hvoid
  next => exact .inl rfl

theorem State.timeOut_moves (s u : State) (k j : SlotNo) : (s.slot j).Moves u ((s.timeOut k).slot j) := by
  by_cases hj : j = k
  · subst hj
    by_cases hout : ∃ a l d, s.slot j = .outstanding a l d
    · obtain ⟨a, l, d, hout⟩ := hout
      rw [State.slot_timeOut_self hout, hout]
      exact .respond ..
    · rw [State.timeOut_of_not_outstanding s fun a l d h => hout ⟨a, l, d, h⟩]
      exact .stay _
  · exact (State.slot_timeOut_of_ne hj).moves

/-- R191: a drained tracker holds FREE and ORPHANED slots alone. -/
theorem State.drainComplete_iff : s.drainComplete = true ↔ ∀ k, s.slot k = .free ∨ ∃ a, s.slot k = .orphaned a := by
  rw [← not_iff_not, Bool.not_eq_true, State.drainComplete_eq_false]
  simp only [not_forall, not_or, not_exists, ne_eq]

/-- Short of cold reset, every command moves each slot as its state allows. -/
theorem exec_moves_slot {c : Instr} (hreset : c ≠ .coldReset) (h : exec c s = .next t) (j : SlotNo) :
    (s.slot j).Moves s (t.slot j) := by
  have stays {u : State} (h : u.slots = s.slots) : (s.slot j).Moves s (u.slot j) := by
    rw [show u.slot j = s.slot j by rw [State.slot, h, State.slot]]
    exact .stay _
  have put {k : SlotNo} {x : Slot} (h : (s.slot k).Moves s x) : (s.slot j).Moves s ((s.putSlot k x).slot j) := by
    rw [State.slot_putSlot]
    split
    next hj => exact hj ▸ h
    next => exact .stay _
  by_cases hf : Field.slots ∈ touched c
  · cases c <;> simp [touched] at hf hreset
    case admission =>
      rcases execAdmission_takes h with hsame | ⟨r, k, hopen, hfree, hadmitted, htakes⟩
      · exact stays hsame.slots
      · by_cases hj : j = k
        · subst hj
          rw [hfree]
          rcases htakes with ⟨_, hslot, _, _⟩ | ⟨_, hslot, _, _⟩ | ⟨_, _, hslot, _, _, _, _, _, _⟩ <;> rw [hslot]
          · exact .answer _ _ _ hopen
          · exact .queue _ _ _ hopen
          · exact .queue _ _ _ hopen
        · rw [hadmitted.slots j hj]
          exact .stay _
    case send =>
      rcases execSend_cases h with rfl | ⟨k, rest, a, p, l, -, hk, ⟨hforces, rfl⟩ | ⟨-, rfl⟩⟩
      · exact .stay _
      · rw [State.slot_sendHead]
        split
        next hj => rw [hj, hk]; exact .send _ _ _ hforces
        next => exact .stay _
      · have hsent : (s.sendHead k rest a p l).slot k = .outstanding a l s.newDeadline :=
          (State.slot_sendHead k).trans (if_pos rfl)
        by_cases hj : j = k
        · rw [hj, State.slot_timeOut_self hsent, hk]
          exact .force ..
        · have := State.slot_timeOut_of_ne (s := s.sendHead k rest a p l) hj
          rw [State.slot_sendHead, if_neg hj] at this
          exact this.moves
    case downstreamResponse k status data =>
      rw [exec, execDownstreamResponse] at h
      split at h
      next a l d hk =>
        split at h <;> cases h
        · rw [State.slot_confirmClaim]
          exact put (hk ▸ .respond ..)
        · have hvoid := State.voidClaim_unlinks (s.putSlot k (.ready a ⟨[], []⟩ (memoryResponse a .error data) false)) a l j
          by_cases hj : j = k
          · subst hj
            rw [State.slot_putSlot_self] at hvoid
            rw [hvoid.eq_of_ready, hk]
            exact .respond ..
          · rw [State.slot_putSlot_of_ne _ _ _ _ hj] at hvoid
            exact hvoid.moves
      next a p r hk =>
        cases h
        rw [State.slot_raise]
        exact put (hk ▸ .unmark ..)
      next a hk =>
        cases h
        rw [State.slot_raise]
        exact put (hk ▸ .free a)
      all_goals
        cases h
        exact stays (by simp)
    case deadlineExpiry k =>
      rw [exec, execDeadlineExpiry] at h
      split at h
      next a l d _ =>
        split at h <;> cases h
        · exact (s.putNow (max s.now d)).timeOut_moves s k j
        · exact .stay _
      next =>
        cases h
        exact .stay _
    case forcedTimeout k =>
      rw [exec, execForcedTimeout] at h
      split at h <;> cases h
      · exact s.timeOut_moves s k j
      · exact .stay _
    case departure =>
      rcases execDeparture_cases h with rfl | ⟨i, k, rest, a, p, r, o, -, -, hk, rfl⟩
      · exact .stay _
      · rw [State.slot_depart]
        split
        next hj => rw [hj, hk]; exact .depart ..
        next => exact .stay _
    case purgeStep =>
      rw [exec, execPurgeStep] at h
      split at h <;> cases h
      · rw [State.slot_advanceWalk]
        unfold State.purgeEntry
        split
        · exact (s.freeEntry_unlinks _ j).moves
        · exact .stay _
      · exact .stay _
    case clearStep =>
      rw [exec, execClearStep] at h
      split at h <;> cases h
      next hclear =>
        have hdrained : s.drainComplete = true := by simp at hclear; exact hclear.1.2
        have hfree : s.clear.slot j = .free := by simp [State.clear, State.slot]
        rcases State.drainComplete_iff.mp hdrained j with hj | ⟨a, hj⟩ <;> rw [hj, hfree]
        · exact .stay _
        · exact .free a
      next => exact .stay _
    case deleteEntry w g =>
      rcases runCommand_part State.slots (fun _ _ _ => rfl) h with h | h
      · exact stays h
      · have hslot : t.slot j = (deleteEntryBody w g s).state.slot j := congrArg (fun slots => slots.get j) h
        rw [hslot]
        unfold deleteEntryBody
        (repeat' split)
        · exact .stay _
        · exact .stay _
        · exact (s.freeEntry_unlinks _ j).moves
  · exact stays (exec_same h hf)

/-- What falls due is no cold reset. -/
theorem step_moves_slot (hreset : ∀ rest, s.pending ≠ .coldReset :: rest) (h : step s = .next t) (j : SlotNo) :
    ∃ u, (s.slot j).Moves u (t.slot j) := by
  rcases step_cases h with ⟨c, rest, hp, hc⟩ | ⟨-, c, hdue, hc⟩ | ⟨-, -, rfl⟩
  · exact ⟨_, exec_moves_slot (s := { s with pending := rest }) (fun hcr => hreset rest (hcr ▸ hp)) hc j⟩
  · exact ⟨s, exec_moves_slot (dueBy_traffic hdue).2 hc j⟩
  · exact ⟨s, .stay _⟩

/-- Settles O57: each move of a slot (`Slot.Moves`) is one that the slot's state allows. -/
theorem slotsMoveOnlyAsTheirStatesAllow : Obligations.SlotsMoveOnlyAsTheirStatesAllow := by
  intro s t k hreset h
  obtain ⟨u, hmoves⟩ := step_moves_slot hreset h k
  generalize s.slot k = x at hmoves
  generalize t.slot k = y at hmoves
  refine ⟨?free, ?queued, ?outstanding, ?ready, ?orphaned⟩
  case free =>
    rintro rfl
    cases hmoves
    · exact .inl rfl
    · exact .inl rfl
    · exact .inr (.inl ⟨_, _, _, rfl⟩)
    · exact .inr (.inr ⟨_, _, _, rfl⟩)
  case queued =>
    rintro a p l rfl
    cases hmoves
    · exact .inl ⟨l, .inl rfl, rfl⟩
    · exact .inl ⟨none, .inr rfl, rfl⟩
    · exact .inr (.inl ⟨_, rfl⟩)
    · exact .inr (.inr rfl)
  case outstanding =>
    rintro a l d rfl
    cases hmoves
    · exact .inl ⟨l, .inl rfl, rfl⟩
    · exact .inl ⟨none, .inr rfl, rfl⟩
    · exact .inr ⟨_, _, rfl⟩
  case ready =>
    rintro a p r o rfl
    cases hmoves
    · exact .inl rfl
    · exact .inl rfl
    · exact .inr (.inl rfl)
    · exact .inr (.inr rfl)
  case orphaned =>
    rintro a rfl
    cases hmoves
    · exact .inl rfl
    · exact .inl rfl
    · exact .inr rfl

end Sys2Proof.Machine

/-! The return order, the forward queue and the claim links: how each command moves them, and that every step keeps them in
agreement with the slots. -/

namespace Sys2Proof.Machine

set_option Elab.async false

variable {s t : State} {r : Request} {k : SlotNo} {e : EntryIndex} {link : Option EntryIndex}

/-! ### Return order and forward queue -/

/-- A slot keeps its place: in the same list, if any, and in or out of the forward queue. -/
def Slot.SamePlace (x y : Slot) : Prop := y.listedFor = x.listedFor ∧ y.isQueued = x.isQueued

theorem Slot.SamePlace.refl (x : Slot) : x.SamePlace x := ⟨rfl, rfl⟩

theorem Slot.Unlinks.samePlace {x y : Slot} (h : x.Unlinks y) : x.SamePlace y := by
  rcases h with rfl | rfl
  · exact .refl _
  · cases x <;> exact ⟨rfl, rfl⟩

theorem Slot.SamePlace.trans {x y z : Slot} (h : x.SamePlace y) (h' : y.SamePlace z) : x.SamePlace z :=
  ⟨h'.1.trans h.1, h'.2.trans h.2⟩

/-- R109, R111: orders stay lawful while lists, forward queue and the places of the slots stay. -/
theorem State.OrdersLawful.of_samePlace (hs : s.OrdersLawful) (hl : t.returnLists = s.returnLists)
    (hq : t.forwardQueue = s.forwardQueue) (hslot : ∀ k, (s.slot k).SamePlace (t.slot k)) : t.OrdersLawful := by
  have hlist (i : Initiator) : t.returnList i = s.returnList i := by rw [State.returnList, hl, State.returnList]
  refine ⟨fun i k => ?_, fun i => hlist i ▸ hs.listOnce i, fun k => ?_, hq ▸ hs.queueOnce⟩
  · rw [hlist, (hslot k).1]
    exact hs.listed i k
  · rw [hq, (hslot k).2]
    exact hs.queued k

/-- R67, R108: a FREE slot that takes a request joins the end of its initiator's list, and of the forward queue where it is
QUEUED. -/
theorem State.OrdersLawful.take {i : Initiator} (hs : s.OrdersLawful) (hfree : s.slot k = .free)
    (hadmitted : AdmittedTo s t i k) (hlisted : (t.slot k).listedFor = some i)
    (hq : ((t.slot k).isQueued = false ∧ t.forwardQueue = s.forwardQueue)
      ∨ ((t.slot k).isQueued = true ∧ t.forwardQueue = s.forwardQueue ++ [k])) : t.OrdersLawful := by
  have hout (j : Initiator) : k ∉ s.returnList j := by
    rw [hs.listed, hfree]
    nofun
  have hqueue : k ∉ s.forwardQueue := by
    rw [hs.queued, hfree]
    nofun
  refine ⟨fun j m => ?listed, fun j => ?listOnce, fun m => ?queued, ?queueOnce⟩
  case listed =>
    by_cases hj : j = i
    · subst hj
      rw [hadmitted.list, List.mem_append, List.mem_singleton]
      by_cases hm : m = k
      · subst hm
        simp [hlisted]
      · rw [hadmitted.slots m hm, ← hs.listed]
        simp [hm]
    · rw [hadmitted.lists j hj]
      by_cases hm : m = k
      · subst hm
        rw [hlisted]
        exact iff_of_false (hout j) fun h => hj (Option.some.inj h).symm
      · rw [hadmitted.slots m hm]
        exact hs.listed j m
  case listOnce =>
    by_cases hj : j = i
    · subst hj
      rw [hadmitted.list]
      exact List.nodup_append.mpr ⟨hs.listOnce j, List.nodup_singleton k, by
        rintro a ha b hb rfl
        exact hout j (List.mem_singleton.mp hb ▸ ha)⟩
    · rw [hadmitted.lists j hj]
      exact hs.listOnce j
  case queued =>
    by_cases hm : m = k
    · subst hm
      rcases hq with ⟨hslot, hq⟩ | ⟨hslot, hq⟩ <;> rw [hslot, hq]
      · exact iff_of_false hqueue nofun
      · simp
    · rw [hadmitted.slots m hm, ← hs.queued]
      rcases hq with ⟨-, hq⟩ | ⟨-, hq⟩ <;> rw [hq]
      simp [hm]
  case queueOnce =>
    rcases hq with ⟨-, hq⟩ | ⟨-, hq⟩ <;> rw [hq]
    · exact hs.queueOnce
    · exact List.nodup_append.mpr ⟨hs.queueOnce, List.nodup_singleton k, by
        rintro a ha b hb rfl
        exact hqueue (List.mem_singleton.mp hb ▸ ha)⟩

/-- R112: the head of the forward queue leaves it, and its slot is QUEUED no longer. -/
theorem State.OrdersLawful.send {rest : List SlotNo} (hs : s.OrdersLawful) (hforward : s.forwardQueue = k :: rest)
    (hl : t.returnLists = s.returnLists) (hq : t.forwardQueue = rest)
    (hself : (t.slot k).listedFor = (s.slot k).listedFor ∧ (t.slot k).isQueued = false)
    (hothers : ∀ j, j ≠ k → (s.slot j).SamePlace (t.slot j)) : t.OrdersLawful := by
  have hlist (i : Initiator) : t.returnList i = s.returnList i := by rw [State.returnList, hl, State.returnList]
  have hnodup : k ∉ rest ∧ rest.Nodup := List.nodup_cons.mp (hforward ▸ hs.queueOnce)
  refine ⟨fun i m => ?_, fun i => hlist i ▸ hs.listOnce i, fun m => ?_, hq ▸ hnodup.2⟩
  · rw [hlist, hs.listed]
    by_cases hm : m = k
    · rw [hm, hself.1]
    · rw [(hothers m hm).1]
  · rw [hq]
    by_cases hm : m = k
    · rw [hm, hself.2]
      exact iff_of_false hnodup.1 nofun
    · rw [(hothers m hm).2, ← hs.queued, hforward, List.mem_cons]
      simp [hm]

/-- R122: the head of a list leaves it, and its slot is listed no longer. -/
theorem State.OrdersLawful.depart {i : Initiator} {rest : List SlotNo} (hs : s.OrdersLawful)
    (hlist : s.returnList i = k :: rest) (hl : ∀ j, t.returnList j = if j = i then rest else s.returnList j)
    (hq : t.forwardQueue = s.forwardQueue)
    (hself : (t.slot k).listedFor = none ∧ (t.slot k).isQueued = (s.slot k).isQueued)
    (hothers : ∀ j, j ≠ k → t.slot j = s.slot j) : t.OrdersLawful := by
  have hnodup : k ∉ rest ∧ rest.Nodup := List.nodup_cons.mp (hlist ▸ hs.listOnce i)
  have hlisted : (s.slot k).listedFor = some i := (hs.listed i k).mp (by simp [hlist])
  refine ⟨fun j m => ?listed, fun j => ?listOnce, fun m => ?queued, hq ▸ hs.queueOnce⟩
  case listed =>
    rw [hl]
    by_cases hm : m = k
    · subst hm
      rw [hself.1]
      refine iff_of_false ?_ nofun
      split
      · exact hnodup.1
      next hj =>
        rw [hs.listed, hlisted]
        exact fun h => hj (Option.some.inj h).symm
    · rw [hothers m hm, ← hs.listed]
      split
      next hj => subst hj; simp [hlist, hm]
      next => rfl
  case listOnce =>
    rw [hl]
    split
    · exact hnodup.2
    · exact hs.listOnce j
  case queued =>
    rw [hq, hs.queued]
    by_cases hm : m = k
    · rw [hm, hself.2]
    · rw [hothers m hm]

/-- With every slot FREE and every list and queue empty, the orders are lawful. -/
theorem State.ordersLawful_of_empty (hslot : ∀ k, t.slot k = .free) (hl : ∀ i, t.returnList i = [])
    (hq : t.forwardQueue = []) : t.OrdersLawful := by
  refine ⟨fun i k => ?_, fun i => ?_, fun k => ?_, ?_⟩
  · rw [hl, hslot]
    exact iff_of_false nofun nofun
  · rw [hl]
    exact List.nodup_nil
  · rw [hq, hslot]
    exact iff_of_false nofun nofun
  · rw [hq]
    exact List.nodup_nil

theorem State.timeOut_samePlace (s : State) (k j : SlotNo) : (s.slot j).SamePlace ((s.timeOut k).slot j) := by
  by_cases hj : j = k
  · subst hj
    by_cases hout : ∃ a l d, s.slot j = .outstanding a l d
    · obtain ⟨a, l, d, hout⟩ := hout
      rw [State.slot_timeOut_self hout, hout]
      exact ⟨rfl, rfl⟩
    · rw [State.timeOut_of_not_outstanding s fun a l d h => hout ⟨a, l, d, h⟩]
      exact .refl _
  · exact (State.slot_timeOut_of_ne hj).samePlace

theorem execDownstreamResponse_samePlace {status : RespStatus} {data : List Byte}
    (h : execDownstreamResponse k status data s = .next t) (j : SlotNo) : (s.slot j).SamePlace (t.slot j) := by
  have put {x : Slot} (h : (s.slot k).SamePlace x) : (s.slot j).SamePlace ((s.putSlot k x).slot j) := by
    rw [State.slot_putSlot]
    split
    next hj => exact hj ▸ h
    next => exact .refl _
  unfold execDownstreamResponse at h
  split at h
  next a l d hk =>
    split at h <;> cases h
    · rw [State.slot_confirmClaim]
      exact put (hk ▸ ⟨rfl, rfl⟩)
    · exact (put (hk ▸ ⟨rfl, rfl⟩)).trans (State.voidClaim_unlinks _ _ _ j).samePlace
  next a p r hk =>
    cases h
    rw [State.slot_raise]
    exact put (hk ▸ ⟨rfl, rfl⟩)
  next a hk =>
    cases h
    rw [State.slot_raise]
    exact put (hk ▸ ⟨rfl, rfl⟩)
  all_goals
    cases h
    rw [State.slot_raise]
    exact .refl _

/-- R180: a PURGE step frees the entry at its cursor, or does nothing to the table and the slots. -/
theorem execPurgeStep_cases (h : execPurgeStep s = .next t) :
    (t.slots = s.slots ∧ t.table = s.table)
    ∨ ∃ e, t.slots = (s.freeEntry e).slots ∧ t.table = (s.freeEntry e).table := by
  unfold execPurgeStep at h
  split at h <;> cases h
  next hrun =>
    unfold State.purgeEntry
    split
    · exact .inr ⟨⟨s.long.cursor, hrun.2⟩, by simp [State.countAffected], by simp [State.countAffected]⟩
    · exact .inl (by simp)
  next => exact .inl ⟨rfl, rfl⟩

/-- R27: DELETE_ENTRY frees an entry, or does nothing. -/
theorem deleteEntryBody_cases (w : Byte) (g : BitVec 24) (s : State) :
    (deleteEntryBody w g s).state = s ∨ ∃ e, (deleteEntryBody w g s).state = s.freeEntry e := by
  unfold deleteEntryBody
  (repeat' split)
  · exact .inl rfl
  · exact .inl rfl
  · exact .inr ⟨_, rfl⟩

/-- R193: a clear step not taken leaves the state; one taken finds the tracker drained. -/
theorem execClearStep_cases (h : execClearStep s = .next t) :
    t = s ∨ s.restarting = true ∧ s.drainComplete = true ∧ t = s.clear := by
  unfold execClearStep at h
  split at h <;> cases h
  next hclear =>
    simp only [Bool.and_eq_true] at hclear
    exact .inr ⟨hclear.1.1, hclear.1.2, rfl⟩
  next => exact .inl rfl

@[simp] theorem State.slot_clear (s : State) (k : SlotNo) : s.clear.slot k = .free := by simp [State.clear, State.slot]
@[simp] theorem State.entry_clear (s : State) (e : EntryIndex) : s.clear.entry e = (s.entry e).withoutClaim := by
  simp [State.clear, State.entry]
@[simp] theorem State.returnList_clear (s : State) (i : Initiator) : s.clear.returnList i = [] := by
  simp [State.clear, State.returnList]

/-- A management command reaches the slots and the table at most by freeing an entry, or the table by its body. -/
theorem exec_deleteEntry_cases {w : Byte} {g : BitVec 24} (h : exec (.deleteEntry w g) s = .next t) :
    (t.slots = s.slots ∧ t.table = s.table)
    ∨ ∃ e, t.slots = (s.freeEntry e).slots ∧ t.table = (s.freeEntry e).table := by
  rcases runCommand_part (fun u => (u.slots, u.table)) (fun _ _ _ => rfl) h with h | h
  · obtain ⟨hslots, htable⟩ := Prod.mk.inj h
    exact .inl ⟨hslots, htable⟩
  · obtain ⟨hslots, htable⟩ := Prod.mk.inj h
    rcases deleteEntryBody_cases w g s with hb | ⟨e, hb⟩ <;> rw [hb] at hslots htable
    · exact .inl ⟨hslots, htable⟩
    · exact .inr ⟨e, hslots, htable⟩

theorem exec_keeps_orders {c : Instr} (hs : s.OrdersLawful) (h : exec c s = .next t) : t.OrdersLawful := by
  have hsame (hf : Field.slots ∉ touched c ∨ t.slots = s.slots) (hl : t.returnLists = s.returnLists)
      (hq : t.forwardQueue = s.forwardQueue) : t.OrdersLawful := by
    have hslots : t.slots = s.slots := hf.elim (exec_same h) id
    refine hs.of_samePlace hl hq fun k => ?_
    rw [show t.slot k = s.slot k by rw [State.slot, hslots, State.slot]]
    exact .refl _
  have hplaces (hl : Field.returnLists ∉ touched c) (hq : Field.forwardQueue ∉ touched c)
      (hplace : ∀ k, (s.slot k).SamePlace (t.slot k)) : t.OrdersLawful :=
    hs.of_samePlace (exec_same h hl) (exec_same h hq) hplace
  have hfrees (hl : Field.returnLists ∉ touched c) (hq : Field.forwardQueue ∉ touched c)
      (hcases : (t.slots = s.slots ∧ t.table = s.table)
        ∨ ∃ e, t.slots = (s.freeEntry e).slots ∧ t.table = (s.freeEntry e).table) : t.OrdersLawful := by
    rcases hcases with ⟨hslots, -⟩ | ⟨e, hslots, -⟩
    · exact hsame (.inr hslots) (exec_same h hl) (exec_same h hq)
    · refine hplaces hl hq fun k => ?_
      rw [show t.slot k = (s.freeEntry e).slot k by rw [State.slot, hslots, State.slot]]
      exact (s.freeEntry_unlinks e k).samePlace
  by_cases hf : Field.slots ∈ touched c
  · cases c <;> simp [touched] at hf
    case coldReset =>
      rw [execColdReset_frame h]
      exact State.ordersLawful_of_empty State.slot_reset State.returnList_reset rfl
    case admission =>
      rcases execAdmission_takes h with hsm | ⟨r, k, -, hfree, hadmitted, htakes⟩
      · exact hsame (.inr hsm.slots) hsm.lists hsm.forward
      · rcases htakes with ⟨_, hslot, hq, _⟩ | ⟨_, hslot, hq, _⟩ | ⟨_, _, hslot, hq, _, _, _, _, _⟩
        · exact hs.take hfree hadmitted (by rw [hslot]; rfl) (.inl ⟨by rw [hslot]; rfl, hq⟩)
        · exact hs.take hfree hadmitted (by rw [hslot]; rfl) (.inr ⟨by rw [hslot]; rfl, hq⟩)
        · exact hs.take hfree hadmitted (by rw [hslot]; rfl) (.inr ⟨by rw [hslot]; rfl, hq⟩)
    case send =>
      rcases execSend_cases h with rfl | ⟨k, rest, a, p, l, hforward, hk, hsent⟩
      · exact hs
      · have hself : (s.sendHead k rest a p l).slot k = .outstanding a l s.newDeadline :=
          (State.slot_sendHead k).trans (if_pos rfl)
        have hothers (j : SlotNo) (hj : j ≠ k) : (s.sendHead k rest a p l).slot j = s.slot j :=
          (State.slot_sendHead j).trans (if_neg hj)
        have hsendHead : (s.sendHead k rest a p l).OrdersLawful :=
          hs.send hforward rfl rfl (by rw [hself, hk]; exact ⟨rfl, rfl⟩) fun j hj => by
            rw [hothers j hj]
            exact .refl _
        rcases hsent with ⟨-, rfl⟩ | ⟨-, rfl⟩
        · exact hsendHead
        · exact hsendHead.of_samePlace (by simp) (by simp) (State.timeOut_samePlace _ k)
    case downstreamResponse => exact hplaces (by simp [touched]) (by simp [touched]) (execDownstreamResponse_samePlace h)
    case deadlineExpiry k =>
      rw [exec, execDeadlineExpiry] at h
      split at h
      next a l d _ =>
        split at h <;> cases h
        · exact hplaces (by simp [touched]) (by simp [touched]) ((s.putNow (max s.now d)).timeOut_samePlace k)
        · exact hs
      next =>
        cases h
        exact hs
    case forcedTimeout k =>
      rw [exec, execForcedTimeout] at h
      split at h <;> cases h
      · exact hplaces (by simp [touched]) (by simp [touched]) (s.timeOut_samePlace k)
      · exact hs
    case departure =>
      rcases execDeparture_cases h with rfl | ⟨i, k, rest, a, p, r, o, -, hlist, hk, rfl⟩
      · exact hs
      · refine hs.depart hlist State.returnList_depart rfl ?_ fun j hj => (State.slot_depart j).trans (if_neg hj)
        rw [State.slot_depart, if_pos rfl, hk]
        cases o <;> exact ⟨rfl, rfl⟩
    case purgeStep => exact hfrees (by simp [touched]) (by simp [touched]) (execPurgeStep_cases h)
    case clearStep =>
      rcases execClearStep_cases h with rfl | ⟨-, -, rfl⟩
      · exact hs
      · exact State.ordersLawful_of_empty s.slot_clear s.returnList_clear rfl
    case deleteEntry => exact hfrees (by simp [touched]) (by simp [touched]) (exec_deleteEntry_cases h)
  · have hl : Field.returnLists ∉ touched c := by cases c <;> simp [touched] at hf ⊢
    have hq : Field.forwardQueue ∉ touched c := by cases c <;> simp [touched] at hf ⊢
    exact hsame (.inl hf) (exec_same h hl) (exec_same h hq)

/-! ### Claim links -/

/-- R15: links stay lawful while each slot keeps its link, with its access where it has one, and each entry its claim
slot. -/
theorem State.LinksLawful.of_same (hs : s.LinksLawful)
    (hslot : ∀ k, (t.slot k).link? = (s.slot k).link?
      ∧ ((s.slot k).link? ≠ none → (t.slot k).access? = (s.slot k).access?))
    (hentry : ∀ e, (t.entry e).claimSlot? = (s.entry e).claimSlot?) : t.LinksLawful where
  bothEnds k e := by
    rw [(hslot k).1, hentry]
    exact hs.bothEnds k e
  ofWrites k e he a ha := by
    rw [(hslot k).1] at he
    rw [(hslot k).2 (by simp [he])] at ha
    exact hs.ofWrites k e he a ha

/-- R15: a lawful link agrees with the entry it names. -/
theorem State.LinksLawful.agrees (hs : s.LinksLawful) (hk : (s.slot k).link? = link) : s.linkAgrees k link := by
  rintro e rfl
  have hclaim := (hs.bothEnds k e).mp hk
  cases he : s.entry e with
  | claimed key c =>
    rw [he] at hclaim
    exact ⟨key, c, rfl, hclaim⟩
  | _ =>
    rw [he] at hclaim
    exact absurd hclaim nofun

/-- R6, R16, R17: a slot and the entry its link names, if any, lose each other together. -/
theorem State.LinksLawful.unpair (hs : s.LinksLawful) (hk : (s.slot k).link? = link)
    (hself : (t.slot k).link? = none) (hothers : ∀ j, j ≠ k → t.slot j = s.slot j)
    (hentry : ∀ e, (t.entry e).claimSlot? = if link = some e then none else (s.entry e).claimSlot?) :
    t.LinksLawful where
  bothEnds j e := by
    rw [hentry]
    by_cases hj : j = k
    · subst hj
      rw [hself]
      refine iff_of_false nofun ?_
      split
      · nofun
      next hne =>
        rw [← hs.bothEnds, hk]
        exact hne
    · rw [hothers j hj, hs.bothEnds]
      split
      next he =>
        have hclaim := (hs.bothEnds k e).mp (hk.trans he)
        rw [hclaim]
        exact iff_of_false (fun h => hj (Option.some.inj h).symm) nofun
      next => rfl
  ofWrites j e he a ha := by
    by_cases hj : j = k
    · subst hj
      rw [hself] at he
      cases he
    · rw [hothers j hj] at he ha
      exact hs.ofWrites j e he a ha

/-- R14: a slot with no link and an entry with no claim slot are given each other, for a write. -/
theorem State.LinksLawful.pair (hs : s.LinksLawful) (hk : (s.slot k).link? = none) (he : (s.entry e).claimSlot? = none)
    (hself : (t.slot k).link? = some e) (hwrite : ∀ a ∈ (t.slot k).access?, a.kind = .write)
    (hothers : ∀ j, j ≠ k → t.slot j = s.slot j)
    (hentry : ∀ e', (t.entry e').claimSlot? = if e' = e then some k else (s.entry e').claimSlot?) :
    t.LinksLawful where
  bothEnds j e' := by
    rw [hentry]
    by_cases hj : j = k
    · subst hj
      rw [hself]
      split
      next he' => simp [he']
      next he' =>
        rw [← hs.bothEnds, hk]
        exact iff_of_false (fun h => he' (Option.some.inj h).symm) nofun
    · rw [hothers j hj, hs.bothEnds]
      split
      next he' =>
        rw [he', he]
        exact iff_of_false nofun fun h => hj (Option.some.inj h).symm
      next => rfl
  ofWrites j e' he' a ha := by
    by_cases hj : j = k
    · subst hj
      exact hwrite a ha
    · rw [hothers j hj] at he' ha
      exact hs.ofWrites j e' he' a ha

/-- Without any link or claim slot, links are lawful. -/
theorem State.linksLawful_of_none (hslot : ∀ k, (t.slot k).link? = none) (hentry : ∀ e, (t.entry e).claimSlot? = none) :
    t.LinksLawful where
  bothEnds k e := by
    rw [hslot, hentry]
    exact iff_of_false nofun nofun
  ofWrites k e he := by
    rw [hslot] at he
    cases he

theorem Slot.link?_unlink (x : Slot) : x.unlink.link? = none ∨ x.link? = none := by
  cases x <;> simp [Slot.unlink, Slot.link?]

/-- R6: freeing an entry breaks its link. -/
theorem State.LinksLawful.freeEntry (hs : s.LinksLawful) (e : EntryIndex) : (s.freeEntry e).LinksLawful := by
  cases hclaim : (s.entry e).claimSlot? with
  | none =>
    refine hs.of_same (fun k => ?_) fun e' => ?_
    · rw [State.slot_freeEntry, hclaim, if_neg nofun]
      exact ⟨rfl, fun _ => rfl⟩
    · rw [State.entry_freeEntry]
      split
      next he => rw [he, hclaim]; rfl
      next => rfl
  | some k =>
    have hk : (s.slot k).link? = some e := (hs.bothEnds k e).mpr hclaim
    refine hs.unpair hk ?_ (fun j hj => ?_) fun e' => ?_
    · rw [State.slot_freeEntry, if_pos hclaim]
      cases s.slot k <;> rfl
    · rw [State.slot_freeEntry, if_neg]
      rw [hclaim]
      exact fun h => hj (Option.some.inj h).symm
    · rw [State.entry_freeEntry]
      simp only [Option.some.injEq, eq_comm (a := e')]
      split <;> rfl

/-- R118: a timeout breaks its slot's link. -/
theorem State.LinksLawful.timeOut (hs : s.LinksLawful) (k : SlotNo) : (s.timeOut k).LinksLawful := by
  by_cases hout : ∃ a l d, s.slot k = .outstanding a l d
  · obtain ⟨a, l, d, hout⟩ := hout
    have hlink : (s.slot k).link? = l := by rw [hout]; rfl
    obtain ⟨hself, hothers, hentry, -, -⟩ := State.timeOut_spec s hout (hs.agrees hlink)
    refine hs.unpair hlink (by rw [hself]; rfl) hothers fun e => ?_
    rw [hentry]
    split <;> rfl
  · rw [State.timeOut_of_not_outstanding s fun a l d h => hout ⟨a, l, d, h⟩]
    exact hs

theorem execDownstreamResponse_keeps_links {status : RespStatus} {data : List Byte} (hs : s.LinksLawful)
    (h : exec (.downstreamResponse k status data) s = .next t) : t.LinksLawful := by
  have hunlisted {x : Slot} (hk : (s.slot k).link? = none) (hx : x.link? = none) {u : State}
      (hslot : ∀ j, u.slot j = (s.putSlot k x).slot j) (hentry : ∀ e, u.entry e = s.entry e) : u.LinksLawful := by
    refine hs.of_same (fun j => ?_) fun e => by rw [hentry]
    rw [hslot, State.slot_putSlot]
    split
    next hj => rw [hj, hk]; exact ⟨hx, fun h => absurd rfl h⟩
    next => exact ⟨rfl, fun _ => rfl⟩
  cases hk : s.slot k with
  | outstanding a l d =>
    have hlink : (s.slot k).link? = l := by rw [hk]; rfl
    have hagrees := hs.agrees hlink
    obtain ⟨u, hu, hslots, hsame, hnamed, -⟩ :=
      downstreamResponse_answers (status := status) (data := data) hk hagrees
    obtain rfl : u = t := Host.Outcome.next.inj (hu.symm.trans h)
    obtain ⟨hself, hothers⟩ := State.takeAnswer_slots hslots
    refine hs.unpair hlink (by rw [hself]; rfl) hothers fun e => ?_
    split
    next he =>
      obtain ⟨key, c, hx, -⟩ := hagrees e he
      rw [hnamed e key c he hx]
      split <;> rfl
    next he => rw [hsame e he]
  | ready a p r o =>
    cases o with
    | true =>
      rw [exec_downstreamResponse_timedOut hk] at h
      cases h
      exact hunlisted (by rw [hk]; rfl) rfl (fun j => State.slot_raise _ _ j) fun e => State.entry_raise _ _ e
    | false =>
      rw [exec_downstreamResponse_stray (.inr (.inr ⟨a, p, r, hk⟩))] at h
      cases h
      exact hs.of_same (fun j => by simp) fun e => by simp
  | orphaned a =>
    rw [exec_downstreamResponse_orphaned hk] at h
    cases h
    exact hunlisted (by rw [hk]; rfl) rfl (fun j => State.slot_raise _ _ j) fun e => State.entry_raise _ _ e
  | free =>
    rw [exec_downstreamResponse_stray (.inl hk)] at h
    cases h
    exact hs.of_same (fun j => by simp) fun e => by simp
  | queued a p l =>
    rw [exec_downstreamResponse_stray (.inr (.inl ⟨a, p, l, hk⟩))] at h
    cases h
    exact hs.of_same (fun j => by simp) fun e => by simp

/-! ### What commands do to entries -/

/-- R29, R132: a sweep step keeps what an entry's claim slot is. -/
theorem Entry.claimSlot?_swept (x : Entry) (limit : Nat) : (x.swept limit).claimSlot? = x.claimSlot? := by
  cases x with
  | claimed key c =>
    cases hc : c.claimSlot with
    | some k => simp [Entry.swept, Entry.claimSlot?, hc]
    | none =>
      simp only [Entry.swept, hc, Option.isSome_none, Bool.false_eq_true, if_false]
      split
      · exact hc ▸ rfl
      · split <;> simp [Entry.claimSlot?, hc]
  | _ => rfl

theorem Entry.claimSlot?_touch (x : Entry) : x.touch.claimSlot? = x.claimSlot? := by cases x <;> rfl
theorem Entry.claimSlot?_reowned (x : Entry) (i : Initiator) : (x.reowned i).claimSlot? = x.claimSlot? := by
  cases x <;> rfl
theorem Entry.claimSlot?_withoutClaim (x : Entry) : x.withoutClaim.claimSlot? = none := by cases x <;> rfl

/-- R26: an update that is not refused PENDING leaves no claim slot. -/
theorem Entry.claimSlot?_updated {x : Entry} (h : x.claimSlot? = none) (m : EntryImage) (convert : Bool) :
    (x.updated m convert).claimSlot? = none := by
  cases x with
  | claimed key c => cases convert <;> [exact h; rfl]
  | _ => rfl

/-- R132: a sweep step changes the table at most at its cursor, by `Entry.swept`. -/
theorem execSweepStep_entry (h : execSweepStep s = .next t) :
    t.table = s.table ∨ ∃ e, ∀ j, t.entry j = if j = e then (s.entry e).swept (s.limitFor (s.entry e)) else s.entry j := by
  unfold execSweepStep at h
  split at h <;> cases h
  next hrun =>
    refine .inr ⟨⟨s.sweep.cursor, hrun.2⟩, fun j => ?_⟩
    have htable : ∀ u : State, u.advanceSweep.entry j = u.entry j := by
      intro u
      rw [State.advanceSweep_spec]
      split <;> rfl
    rw [htable, State.sweepEntry_spec]
    exact Vec.get_set _ _ _ _
  next => exact .inl rfl

/-- R183: a REOWN step changes the table at most at its cursor, where it gives away an entry that is not pending. -/
theorem execReownStep_entry (h : execReownStep s = .next t) :
    t.table = s.table ∨ ∃ e target, (s.entry e).claimSlot? = none
      ∧ ∀ j, t.entry j = if j = e then (s.entry e).reowned target else s.entry j := by
  unfold execReownStep at h
  split at h <;> cases h
  next hrun =>
    unfold State.reownEntry
    split
    next source target _ _ =>
      simp only []
      split
      · split
        · exact .inl (by simp [State.countSkipped])
        next hsettled =>
          refine .inr ⟨⟨s.long.cursor, hrun.2⟩, target, by simpa using hsettled, fun j => ?_⟩
          rw [State.entry_advanceWalk, State.entry_countAffected, State.entry_putEntry]
      · exact .inl (by simp)
    next => exact .inl (by simp)
  next => exact .inl rfl

/-- R23, R24: INSERT_ENTRY places its key in the FREE way that placement finds, where no entry has it, or does nothing. -/
theorem insertEntryBody_cases (m : EntryImage) (s : State) :
    (insertEntryBody m s).state = s ∨ ∃ key e x, insertedEntry m key = some x ∧ key.granule < (s.window key.window).size
      ∧ s.lookup key = none ∧ s.freeWay key = some e ∧ (insertEntryBody m s).state = s.putEntry e x := by
  unfold insertEntryBody
  split
  · exact .inl rfl
  next key _ =>
    split
    · exact .inl rfl
    next x hx =>
      split
      · exact .inl rfl
      next hsize =>
        split
        · exact .inl rfl
        next hlookup =>
          split
          · exact .inl rfl
          next e he => exact .inr ⟨key, e, x, hx, by omega, by simpa using hlookup, he, rfl⟩

/-- R25, R26: UPDATE_ENTRY rewrites an entry that is not pending, or does nothing. -/
theorem updateEntryBody_cases (m : EntryImage) (c : Byte) (s : State) :
    (updateEntryBody m c s).state = s ∨ ∃ e convert, (s.entry e).claimSlot? = none
      ∧ (updateEntryBody m c s).state = s.putEntry e ((s.entry e).updated m convert) := by
  unfold updateEntryBody
  split
  next key convert _ _ =>
    split
    · exact .inl rfl
    next e he =>
      split
      · exact .inl rfl
      · split
        · exact .inl rfl
        next hsettled => exact .inr ⟨e, convert, by simpa using hsettled, rfl⟩
  next => exact .inl rfl

theorem insertedEntry_claimSlot? {m : EntryImage} {key : Key} {x : Entry} (h : insertedEntry m key = some x) :
    x.claimSlot? = none := by
  unfold insertedEntry at h
  split at h <;> cases h <;> rfl

/-- An entry replaced by one with the same claim slot. -/
theorem State.LinksLawful.replace {x : Entry} (hs : s.LinksLawful) (hslots : t.slots = s.slots)
    (hx : x.claimSlot? = (s.entry e).claimSlot?) (hentry : ∀ j, t.entry j = if j = e then x else s.entry j) :
    t.LinksLawful := by
  refine hs.of_same (fun k => ?_) fun j => ?_
  · rw [show t.slot k = s.slot k by rw [State.slot, hslots, State.slot]]
    exact ⟨rfl, fun _ => rfl⟩
  · rw [hentry]
    split
    next hj => rw [hj, hx]
    next => rfl

/-- Slots and entries that stay. -/
theorem State.LinksLawful.stay (hs : s.LinksLawful) (hslots : t.slots = s.slots) (htable : t.table = s.table) :
    t.LinksLawful := by
  refine hs.of_same (fun k => ?_) fun e => ?_
  · rw [show t.slot k = s.slot k by rw [State.slot, hslots, State.slot]]
    exact ⟨rfl, fun _ => rfl⟩
  · rw [show t.entry e = s.entry e by rw [State.entry, htable, State.entry]]

theorem State.LinksLawful.freed (hs : s.LinksLawful)
    (h : (t.slots = s.slots ∧ t.table = s.table) ∨ ∃ e, t.slots = (s.freeEntry e).slots ∧ t.table = (s.freeEntry e).table) :
    t.LinksLawful := by
  rcases h with ⟨hslots, htable⟩ | ⟨e, hslots, htable⟩
  · exact hs.stay hslots htable
  · exact (hs.freeEntry e).stay hslots htable

/-- R14, R67: an admission gives its slot and the entry of its claim each other, and touches no other link. -/
theorem State.LinksLawful.take (hs : s.LinksLawful) (hfree : s.slot k = .free)
    (hothers : ∀ j, j ≠ k → t.slot j = s.slot j) (htakes : s.Takes t r k) : t.LinksLawful := by
  have hunlinked (hnew : (t.slot k).link? = none) (hentry : ∀ e, (t.entry e).claimSlot? = (s.entry e).claimSlot?) :
      t.LinksLawful := by
    refine hs.of_same (fun j => ?_) hentry
    by_cases hj : j = k
    · subst hj
      rw [hnew, hfree]
      exact ⟨rfl, fun h => absurd rfl h⟩
    · rw [hothers j hj]
      exact ⟨rfl, fun _ => rfl⟩
  rcases htakes with ⟨_, hslot, _, htable⟩ | ⟨granted, hslot, _, hentry⟩
    | ⟨key, e, hslot, _, hwrite, _, _, hway, hentry⟩
  · exact hunlinked (by rw [hslot]; rfl) fun e => by rw [State.entry, htable, State.entry]
  · refine hunlinked (by rw [hslot]; rfl) fun e => ?_
    rw [hentry]
    split
    · exact Entry.claimSlot?_touch _
    · rfl
  · refine hs.pair (k := k) (e := e) (by rw [hfree]; rfl) (by rw [(s.freeWay_some hway).1]; rfl) (by rw [hslot]; rfl)
      ?_ hothers fun e' => ?_
    · rw [hslot]
      rintro a ⟨⟩
      exact hwrite
    · rw [hentry]
      split <;> rfl

theorem exec_keeps_links {c : Instr} (hs : s.LinksLawful) (h : exec c s = .next t) : t.LinksLawful := by
  by_cases hf : Field.table ∈ touched c ∨ Field.slots ∈ touched c
  · cases c <;> simp [touched] at hf
    case coldReset =>
      rw [execColdReset_frame h]
      exact State.linksLawful_of_none (fun k => congrArg Slot.link? (State.slot_reset k))
        fun e => congrArg Entry.claimSlot? (State.entry_reset e)
    case admission =>
      rcases execAdmission_takes h with hsame | ⟨r, k, -, hfree, hadmitted, htakes⟩
      · exact hs.stay hsame.slots hsame.table
      · exact hs.take hfree hadmitted.slots htakes
    case send =>
      rcases execSend_cases h with rfl | ⟨k, rest, a, p, l, -, hk, hsent⟩
      · exact hs
      · have hsendHead : (s.sendHead k rest a p l).LinksLawful := by
          refine hs.of_same (fun j => ?_) fun e => rfl
          rw [State.slot_sendHead]
          split
          next hj => rw [hj, hk]; exact ⟨rfl, fun _ => rfl⟩
          next => exact ⟨rfl, fun _ => rfl⟩
        rcases hsent with ⟨-, rfl⟩ | ⟨-, rfl⟩
        · exact hsendHead
        · exact hsendHead.timeOut k
    case downstreamResponse => exact execDownstreamResponse_keeps_links hs h
    case deadlineExpiry k =>
      rw [exec, execDeadlineExpiry] at h
      split at h
      next a l d _ =>
        split at h <;> cases h
        · exact State.LinksLawful.timeOut (s := s.putNow (max s.now d)) (hs.stay rfl rfl) k
        · exact hs
      next =>
        cases h
        exact hs
    case forcedTimeout k =>
      rw [exec, execForcedTimeout] at h
      split at h <;> cases h
      · exact hs.timeOut k
      · exact hs
    case departure =>
      rcases execDeparture_cases h with rfl | ⟨i, k, rest, a, p, r, o, -, -, hk, rfl⟩
      · exact hs
      · refine hs.of_same (fun j => ?_) fun e => rfl
        rw [State.slot_depart]
        split
        next hj =>
          rw [hj, hk]
          exact ⟨by cases o <;> rfl, fun h => absurd rfl h⟩
        next => exact ⟨rfl, fun _ => rfl⟩
    case sweepStep =>
      have hslots : t.slots = s.slots := exec_same h (f := .slots) (by simp [touched])
      rcases execSweepStep_entry h with htable | ⟨e, hentry⟩
      · exact hs.stay hslots htable
      · exact hs.replace hslots (Entry.claimSlot?_swept ..) hentry
    case purgeStep => exact hs.freed (execPurgeStep_cases h)
    case reownStep =>
      have hslots : t.slots = s.slots := exec_same h (f := .slots) (by simp [touched])
      rcases execReownStep_entry h with htable | ⟨e, target, -, hentry⟩
      · exact hs.stay hslots htable
      · exact hs.replace hslots (Entry.claimSlot?_reowned ..) hentry
    case clearStep =>
      rcases execClearStep_cases h with rfl | ⟨-, -, rfl⟩
      · exact hs
      · refine State.linksLawful_of_none (fun k => ?_) fun e => ?_
        · rw [State.slot_clear]; rfl
        · rw [State.entry_clear, Entry.claimSlot?_withoutClaim]
    case insertEntry m =>
      rcases runCommand_part (fun u => (u.slots, u.table)) (fun _ _ _ => rfl) h with h | h <;>
        obtain ⟨hslots, htable⟩ := Prod.mk.inj h
      · exact hs.stay hslots htable
      · refine State.LinksLawful.stay ?_ hslots htable
        rcases insertEntryBody_cases m s with hb | ⟨key, e, x, hx, -, -, he, hb⟩ <;> rw [hb]
        · exact hs
        · refine hs.replace rfl ?_ (s.entry_putEntry e x)
          rw [insertedEntry_claimSlot? hx, (s.freeWay_some he).1]
          rfl
    case updateEntry m c =>
      rcases runCommand_part (fun u => (u.slots, u.table)) (fun _ _ _ => rfl) h with h | h <;>
        obtain ⟨hslots, htable⟩ := Prod.mk.inj h
      · exact hs.stay hslots htable
      · refine State.LinksLawful.stay ?_ hslots htable
        rcases updateEntryBody_cases m c s with hb | ⟨e, convert, he, hb⟩ <;> rw [hb]
        · exact hs
        · exact hs.replace rfl ((Entry.claimSlot?_updated he m convert).trans he.symm) (s.entry_putEntry e _)
    case deleteEntry => exact hs.freed (exec_deleteEntry_cases h)
  · obtain ⟨htable, hslots⟩ := not_or.mp hf
    exact hs.stay (exec_same h hslots) (exec_same h htable)

/-- Settles O52: every command keeps the orders, and every command keeps the links. -/
theorem stepsKeepTheTrackerLaws : Obligations.StepsKeepTheTrackerLaws := by
  intro s t hs h
  refine step_keeps (P := fun s => s.OrdersLawful ∧ s.LinksLawful) ?_ ?_ ?_ hs h
  · exact fun s l h => ⟨h.1.of_samePlace rfl rfl fun _ => .refl _, h.2.stay rfl rfl⟩
  · exact fun s n h => ⟨h.1.of_samePlace rfl rfl fun _ => .refl _, h.2.stay rfl rfl⟩
  · exact fun c s t ⟨horders, hlinks⟩ h => ⟨exec_keeps_orders horders h, exec_keeps_links hlinks h⟩

end Sys2Proof.Machine

/-! The Window Map and the Granule Table: how each command moves windows and entries, and that every step keeps their
laws. -/

namespace Sys2Proof.Machine

set_option Elab.async false

variable {s t : State} {key : Key} {e : EntryIndex} {w : WindowNo}

/-! ### Entries -/

/-- R11: a share set without an initiator does not have it. -/
theorem shareHas_shareWithout (m : ShareSet) (i : Initiator) : shareHas (shareWithout m i) i = false := by
  have hbit : (BitVec.ofNat 16 (2 ^ i.val)).getLsbD i.val = true := by
    revert i
    decide
  simp only [shareHas, shareWithout, BitVec.getLsbD_and, BitVec.getLsbD_not, hbit]
  simp

/-- What may stand in an entry's place by the laws of the table: nothing, or an entry of the same key that keeps the
entry's own laws. -/
def Entry.Succeeds (x y : Entry) : Prop :=
  y = .free ∨ (y.key? = x.key? ∧ y.ownerNotSharer ∧ y.ageInRange)

theorem State.TableLawful.stays (hs : s.TableLawful) (e : EntryIndex) : (s.entry e).Succeeds (s.entry e) :=
  .inr ⟨rfl, hs.sharing e, hs.ages e⟩

/-- Each entry stays, is freed, or is rewritten under its own key: the table stays lawful. -/
theorem State.TableLawful.succeed (hs : s.TableLawful)
    (hwindows : ∀ e k, (s.entry e).key? = some k → k.granule < (t.window k.window).size)
    (h : ∀ e, (s.entry e).Succeeds (t.entry e)) : t.TableLawful := by
  have hkey (e : EntryIndex) (k : Key) (hk : (t.entry e).key? = some k) : (s.entry e).key? = some k := by
    rcases h e with hfree | ⟨hsame, -, -⟩
    · rw [hfree] at hk
      cases hk
    · exact hsame ▸ hk
  refine ⟨fun e k hk => hs.inBucket e k (hkey e k hk), fun e e' k hk hk' => hs.unique e e' k (hkey e k hk) (hkey e' k hk'),
    fun e k hk => hwindows e k (hkey e k hk), fun e => ?_, fun e => ?_⟩
  · rcases h e with hfree | ⟨-, hsharing, -⟩
    · rw [hfree]
      trivial
    · exact hsharing
  · rcases h e with hfree | ⟨-, -, hages⟩
    · rw [hfree]
      trivial
    · exact hages

/-- The same while no window changes. -/
theorem State.TableLawful.succeed_of_same (hs : s.TableLawful) (hw : t.windows = s.windows)
    (h : ∀ e, (s.entry e).Succeeds (t.entry e)) : t.TableLawful :=
  hs.succeed (fun e k hk => by rw [State.window, hw]; exact hs.belowSize e k hk) h

/-- R3, R4: a key that no entry has is placed in a FREE way of its bucket. -/
theorem State.TableLawful.place {x : Entry} (hs : s.TableLawful) (hw : t.windows = s.windows)
    (hlookup : s.lookup key = none) (hway : s.freeWay key = some e) (hsize : key.granule < (s.window key.window).size)
    (hx : x.key? = some key) (hsharing : x.ownerNotSharer) (hages : x.ageInRange)
    (hentry : ∀ e', t.entry e' = if e' = e then x else s.entry e') : t.TableLawful := by
  have hwindow (v : WindowNo) : t.window v = s.window v := by rw [State.window, hw, State.window]
  have hother (e' : EntryIndex) (hk : (s.entry e').key? = some key) : False :=
    s.lookup_none hlookup (hs.inBucket e' key hk) hk
  have hcases (e' : EntryIndex) (k : Key) (hk : (t.entry e').key? = some k) :
      (e' = e ∧ k = key) ∨ (e' ≠ e ∧ (s.entry e').key? = some k) := by
    rw [hentry] at hk
    split at hk
    next he => exact .inl ⟨he, Option.some.inj (hk.symm.trans hx)⟩
    next he => exact .inr ⟨he, hk⟩
  refine ⟨fun e' k hk => ?inBucket, fun e₁ e₂ k h₁ h₂ => ?unique, fun e' k hk => ?belowSize, fun e' => ?sharing,
    fun e' => ?ages⟩
  case inBucket =>
    rcases hcases e' k hk with ⟨rfl, rfl⟩ | ⟨-, hk⟩
    · exact (s.freeWay_some hway).2
    · exact hs.inBucket e' k hk
  case unique =>
    rcases hcases e₁ k h₁ with ⟨rfl, rfl⟩ | ⟨-, h₁⟩ <;> rcases hcases e₂ k h₂ with ⟨he, hk⟩ | ⟨-, h₂⟩
    · exact he.symm
    · exact (hother e₂ h₂).elim
    · exact (hother e₁ (hk ▸ h₁)).elim
    · exact hs.unique e₁ e₂ k h₁ h₂
  case belowSize =>
    rw [hwindow]
    rcases hcases e' k hk with ⟨rfl, rfl⟩ | ⟨-, hk⟩
    · exact hsize
    · exact hs.belowSize e' k hk
  case sharing =>
    rw [hentry]
    split
    · exact hsharing
    · exact hs.sharing e'
  case ages =>
    rw [hentry]
    split
    · exact hages
    · exact hs.ages e'

/-- An entry replaced by one that may succeed it. -/
theorem State.TableLawful.replace {x : Entry} (hs : s.TableLawful) (hw : t.windows = s.windows)
    (hx : (s.entry e).Succeeds x) (hentry : ∀ j, t.entry j = if j = e then x else s.entry j) : t.TableLawful := by
  refine hs.succeed_of_same hw fun j => ?_
  rw [hentry]
  split
  next hj => exact hj ▸ hx
  next => exact hs.stays j

/-- Windows and entries that stay. -/
theorem State.TableLawful.stay (hs : s.TableLawful) (hw : t.windows = s.windows) (ht : t.table = s.table) :
    t.TableLawful := by
  refine hs.succeed_of_same hw fun e => ?_
  rw [show t.entry e = s.entry e by rw [State.entry, ht, State.entry]]
  exact hs.stays e

/-- R12: touching keeps what an entry's laws ask. -/
theorem Entry.succeeds_touch {x : Entry} (hsharing : x.ownerNotSharer) (hages : x.ageInRange) : x.Succeeds x.touch := by
  cases x with
  | claimed k c => exact .inr ⟨rfl, hsharing, hages⟩
  | _ => exact .inr ⟨rfl, hsharing, hages⟩

/-- R132: a sweep step resets, ages or frees, and no age passes 6 while the window's age limit is at most 7. -/
theorem Entry.succeeds_swept {x : Entry} {limit : Nat} (hlimit : limit ≤ 7) (hsharing : x.ownerNotSharer)
    (hages : x.ageInRange) : x.Succeeds (x.swept limit) := by
  cases x with
  | claimed k c =>
    simp only [Entry.swept]
    split
    · exact .inr ⟨rfl, hsharing, hages⟩
    · split
      · exact .inr ⟨rfl, hsharing, Nat.zero_le _⟩
      · split
        · exact .inl rfl
        next hage => exact .inr ⟨rfl, hsharing, show c.age + 1 ≤ 6 by omega⟩
  | _ => exact .inr ⟨rfl, hsharing, hages⟩

/-- R183: the new owner leaves the share set. -/
theorem Entry.succeeds_reowned {x : Entry} (i : Initiator) (hages : x.ageInRange) : x.Succeeds (x.reowned i) := by
  cases x with
  | claimed k c => exact .inr ⟨rfl, shareHas_shareWithout c.share i, hages⟩
  | pinned k p => exact .inr ⟨rfl, shareHas_shareWithout p.share i, trivial⟩
  | _ => exact .inr ⟨rfl, trivial, trivial⟩

/-- R26: the owner given is left out of the share set given. -/
theorem Entry.succeeds_updated {x : Entry} (m : EntryImage) (convert : Bool) (hages : x.ageInRange) :
    x.Succeeds (x.updated m convert) := by
  have hshare := shareHas_shareWithout m.share m.owner
  cases x with
  | claimed k c => cases convert <;> [exact .inr ⟨rfl, hshare, hages⟩; exact .inr ⟨rfl, hshare, trivial⟩]
  | pinned k p => exact .inr ⟨rfl, hshare, trivial⟩
  | _ => exact .inr ⟨rfl, trivial, trivial⟩

/-- R31: a clear step frees claims and keeps what was set. -/
theorem Entry.succeeds_withoutClaim {x : Entry} (hsharing : x.ownerNotSharer) : x.Succeeds x.withoutClaim := by
  cases x with
  | claimed k c => exact .inl rfl
  | pinned k p => exact .inr ⟨rfl, hsharing, trivial⟩
  | _ => exact .inr ⟨rfl, trivial, trivial⟩

/-- R24: an entry placed has its key, and leaves its owner out of its share set. -/
theorem insertedEntry_spec {m : EntryImage} {x : Entry} (h : insertedEntry m key = some x) :
    x.key? = some key ∧ x.ownerNotSharer ∧ x.ageInRange := by
  unfold insertedEntry at h
  split at h <;> cases h
  · exact ⟨rfl, shareHas_shareWithout m.share m.owner, trivial⟩
  · exact ⟨rfl, trivial, trivial⟩

/-- R118: a timeout frees the entry of its slot's claim, if any, and changes no other. -/
theorem State.entry_timeOut (s : State) (k : SlotNo) (e : EntryIndex) :
    (s.timeOut k).entry e = s.entry e ∨ (s.timeOut k).entry e = .free := by
  unfold State.timeOut
  split
  · rw [State.entry_voidClaim]
    split
    · exact .inr rfl
    · exact .inl (by simp)
  · exact .inl rfl

/-- R16, R17: memory's answer confirms, voids or leaves a claim. -/
theorem execDownstreamResponse_entry {k : SlotNo} {status : RespStatus} {data : List Byte}
    (h : execDownstreamResponse k status data s = .next t) (e : EntryIndex) :
    t.entry e = s.entry e ∨ t.entry e = .free
    ∨ ∃ key c, s.entry e = .claimed key c ∧ t.entry e = .claimed key { c with claimSlot := none } := by
  unfold execDownstreamResponse at h
  split at h
  next a l d hk =>
    split at h <;> cases h
    · rw [State.entry_confirmClaim]
      split
      · rw [State.entry_putSlot]
        cases hx : s.entry e with
        | claimed key c => exact .inr (.inr ⟨key, c, rfl, rfl⟩)
        | _ => exact .inl rfl
      · exact .inl rfl
    · rw [State.entry_voidClaim]
      split
      · exact .inr (.inl rfl)
      · exact .inl rfl
  all_goals
    cases h
    exact .inl (by simp)

/-! ### Windows -/

/-- R33, R35: a request's granule lies in an enabled window, below its size. -/
theorem State.granule_lt_of_findKey {a : Addr} (h : s.findKey a = some key) :
    key.granule < (s.window key.window).size := by
  simp only [State.findKey, Option.map_eq_some_iff] at h
  obtain ⟨w, hw, rfl⟩ := h
  have hcovers := List.find?_some hw
  rw [Bool.and_eq_true] at hcovers
  obtain ⟨hbase, hend⟩ := Window.covers_iff.mp hcovers.2
  simp only [Window.granuleOf]
  rw [Nat.div_lt_iff_lt_mul (Nat.two_pow_pos _)]
  omega

/-- R40, R42: SET_WINDOW writes a window whose image is admissible and fits, and whose geometry stays while it is enabled
or holds entries; or it does nothing. -/
theorem setWindowBody_cases (b : Byte) (m : WindowImage) (s : State) :
    (setWindowBody b m s).state = s ∨ ∃ w, AdmissibleImage m
      ∧ m.base.toNat + m.size.toNat * 2 ^ m.exponent.toNat ≤ 2 ^ 40
      ∧ ((m.base = (s.window w).base ∧ m.size.toNat = (s.window w).size ∧ m.exponent.toNat = (s.window w).exponent)
        ∨ ((s.window w).enabled = false ∧ ∀ e k, (s.entry e).key? = some k → k.window ≠ w))
      ∧ (setWindowBody b m s).state = s.putWindow w (imageWrite m (s.window w)) := by
  unfold setWindowBody
  split
  · exact .inl rfl
  next w _ =>
    split
    · exact .inl rfl
    next hadm =>
      split
      · exact .inl rfl
      next hfits =>
        split
        · exact .inl rfl
        next huse =>
          refine .inr ⟨w, imageAdmissible_iff.mp (by simpa using hadm), (imageFits_iff m).mp (by simpa using hfits), ?_, rfl⟩
          by_cases hdiffers : imageDiffers m (s.window w) = true
          · rw [hdiffers, Bool.true_and, Bool.or_eq_true, not_or] at huse
            refine .inr ⟨by simpa using huse.1, fun e k hk hkw => ?_⟩
            exact huse.2 (decide_eq_true ((s.entryCount_pos w).mpr ⟨e, k, hk, hkw⟩))
          · rw [imageDiffers_iff, not_not] at hdiffers
            exact .inl hdiffers

/-- R43, R44: ENABLE_WINDOW writes the enabled flag of a window, which has granules and meets no other enabled window where
the flag is set; or it does nothing. -/
theorem enableWindowBody_cases (b c : Byte) (s : State) :
    (enableWindowBody b c s).state = s ∨ ∃ w on,
      (on = true → 0 < (s.window w).size ∧ s.overlaps w = false)
      ∧ (enableWindowBody b c s).state = s.putWindow w { s.window w with enabled := on } := by
  unfold enableWindowBody
  split
  next w _ _ =>
    split
    · exact .inl rfl
    next hsize =>
      split
      · exact .inl rfl
      next hoverlap => exact .inr ⟨w, true, fun _ => ⟨by omega, by simpa using hoverlap⟩, rfl⟩
  next w _ _ => exact .inr ⟨w, false, nofun, rfl⟩
  next => exact .inl rfl

/-- A window replaced by a lawful one whose addresses, where it is enabled, no other enabled window has. -/
theorem State.WindowsLawful.putWindow {v : Window} (hs : s.WindowsLawful) (hv : v.Lawful)
    (hdisjoint : v.enabled = true → ∀ u, u ≠ w → (s.window u).enabled = true →
      ∀ a, ¬ ((s.window u).covers a = true ∧ v.covers a = true)) : (s.putWindow w v).WindowsLawful := by
  refine ⟨fun u => ?_, fun u x hux hu hx a ⟨hua, hxa⟩ => ?_⟩
  · rw [State.window_putWindow]
    split
    · exact hv
    · exact hs.each u
  · rw [State.window_putWindow] at hu hx hua hxa
    by_cases huw : u = w <;> by_cases hxw : x = w
    · exact hux (huw.trans hxw.symm)
    · rw [if_pos huw] at hu hua
      rw [if_neg hxw] at hx hxa
      exact hdisjoint hu x hxw hx a ⟨hxa, hua⟩
    · rw [if_neg huw] at hu hua
      rw [if_pos hxw] at hx hxa
      exact hdisjoint hx u huw hu a ⟨hua, hxa⟩
    · rw [if_neg huw] at hu hua
      rw [if_neg hxw] at hx hxa
      exact hs.disjoint u x hux hu hx a ⟨hua, hxa⟩

theorem setWindowBody_keeps_windows (hs : s.WindowsLawful) (b : Byte) (m : WindowImage) :
    (setWindowBody b m s).state.WindowsLawful := by
  rcases setWindowBody_cases b m s with h | ⟨w, hadm, hfits, hgeometry, h⟩ <;> rw [h]
  · exact hs
  · refine hs.putWindow ⟨hadm.exponent, hadm.size.2, hadm.aligned, hfits, hadm.ageLimit, fun _ => hadm.size.1⟩ ?_
    intro henabled u hu hue a ⟨hua, hwa⟩
    rcases hgeometry with ⟨hbase, hsize, hexponent⟩ | ⟨hdisabled, -⟩
    · have hcovers : (imageWrite m (s.window w)).covers a = (s.window w).covers a := by
        simp only [Window.covers, imageWrite, hbase, hsize, hexponent]
      exact hs.disjoint u w hu hue henabled a ⟨hua, hcovers ▸ hwa⟩
    · exact absurd (hdisabled.symm.trans henabled) nofun

theorem enableWindowBody_keeps_windows (hs : s.WindowsLawful) (b c : Byte) :
    (enableWindowBody b c s).state.WindowsLawful := by
  rcases enableWindowBody_cases b c s with h | ⟨w, on, hon, h⟩ <;> rw [h]
  · exact hs
  · have hw := hs.each w
    refine hs.putWindow ⟨hw.exponent, hw.size, hw.aligned, hw.fits, hw.ageLimit, fun h => (hon h).1⟩ ?_
    intro henabled u hu hue a ⟨hua, hwa⟩
    have := (hon henabled).2
    rw [← Bool.not_eq_true, State.overlaps_iff] at this
    exact this ⟨u, a, hu, hue, hua, hwa⟩

theorem State.WindowsLawful.of_same (hs : s.WindowsLawful) (hw : t.windows = s.windows) : t.WindowsLawful := by
  have hwindow : t.window = s.window := by
    funext w
    rw [State.window, hw, State.window]
  exact ⟨hwindow ▸ hs.each, hwindow ▸ hs.disjoint⟩

/-- R34: the cold windows are lawful. -/
theorem State.windowsLawful_of_cold (h : ∀ w, t.window w = .cold) : t.WindowsLawful := by
  refine ⟨fun w => ?_, fun v w _ hv => ?_⟩
  · rw [h]
    exact ⟨by decide, by decide, by decide, by decide, by decide, by decide⟩
  · rw [h] at hv
    cases hv

theorem exec_keeps_windows {c : Instr} (hs : s.WindowsLawful) (h : exec c s = .next t) : t.WindowsLawful := by
  by_cases hf : Field.windows ∈ touched c
  · cases c <;> simp [touched] at hf
    case coldReset =>
      rw [execColdReset_frame h]
      exact State.windowsLawful_of_cold State.window_reset
    case setWindow =>
      rcases runCommand_part State.windows (fun _ _ _ => rfl) h with h | h
      · exact hs.of_same h
      · exact (setWindowBody_keeps_windows hs _ _).of_same h
    case enableWindow =>
      rcases runCommand_part State.windows (fun _ _ _ => rfl) h with h | h
      · exact hs.of_same h
      · exact (enableWindowBody_keeps_windows hs _ _).of_same h
  · exact hs.of_same (exec_same h hf)

/-! ### The table -/

/-- R40, R41: no window's size falls below the granules of the entries it holds. -/
theorem exec_keeps_belowSize {c : Instr} (hs : s.TableLawful) (hreset : c ≠ .coldReset) (h : exec c s = .next t)
    (e : EntryIndex) (k : Key) (hk : (s.entry e).key? = some k) : k.granule < (t.window k.window).size := by
  have hbelow := hs.belowSize e k hk
  have hsame (h : t.windows = s.windows) : k.granule < (t.window k.window).size := by
    rwa [show t.window k.window = s.window k.window by rw [State.window, h, State.window]]
  by_cases hf : Field.windows ∈ touched c
  · cases c <;> simp [touched] at hf hreset
    case setWindow b m =>
      rcases runCommand_part State.windows (fun _ _ _ => rfl) h with h | h
      · exact hsame h
      · rcases setWindowBody_cases b m s with hb | ⟨w, -, -, hgeometry, hb⟩ <;> rw [hb] at h
        · exact hsame h
        · rw [State.window, h]
          change k.granule < ((s.putWindow w _).window k.window).size
          rw [State.window_putWindow]
          split
          next hkw =>
            rcases hgeometry with ⟨-, hsize, -⟩ | ⟨-, hempty⟩
            · change k.granule < m.size.toNat
              rwa [hsize, ← hkw]
            · exact absurd hkw (hempty e k hk)
          next => exact hbelow
    case enableWindow b c =>
      rcases runCommand_part State.windows (fun _ _ _ => rfl) h with h | h
      · exact hsame h
      · rcases enableWindowBody_cases b c s with hb | ⟨w, on, -, hb⟩ <;> rw [hb] at h
        · exact hsame h
        · rw [State.window, h]
          change k.granule < ((s.putWindow w _).window k.window).size
          rw [State.window_putWindow]
          split
          next hkw => exact hkw ▸ hbelow
          next => exact hbelow
  · exact hsame (exec_same h hf)

/-- A management command that reaches the table by its body. -/
theorem runCommand_keeps_table {c : Command} {i : Instr} {body : State → Answer} (hs : s.TableLawful)
    (hbody : (body s).state.TableLawful) (h : runCommand c i body s = .next t) : t.TableLawful := by
  rcases runCommand_part (fun u => (u.windows, u.table)) (fun _ _ _ => rfl) h with h | h <;>
    obtain ⟨hwindows, htable⟩ := Prod.mk.inj h
  · exact hs.stay hwindows htable
  · exact hbody.stay hwindows htable

theorem State.TableLawful.freed (hs : s.TableLawful) (hw : t.windows = s.windows)
    (h : ∀ e, t.entry e = s.entry e ∨ t.entry e = .free) : t.TableLawful :=
  hs.succeed_of_same hw fun e => by
    rcases h e with he | he <;> rw [he]
    · exact hs.stays e
    · exact .inl rfl

theorem State.entry_freeEntry_cases (s : State) (e j : EntryIndex) :
    (s.freeEntry e).entry j = s.entry j ∨ (s.freeEntry e).entry j = .free := by
  rw [State.entry_freeEntry]
  split
  · exact .inr rfl
  · exact .inl rfl

/-- R67: an admission touches the entry that granted it, or claims a FREE way of a granule that no entry lists. -/
theorem State.TableLawful.take {r : Request} {k : SlotNo} (hs : s.TableLawful) (hw : t.windows = s.windows)
    (htakes : s.Takes t r k) : t.TableLawful := by
  rcases htakes with ⟨_, _, _, htable⟩ | ⟨granted, _, _, hentry⟩ | ⟨key, e, _, _, _, hfind, hlookup, hway, hentry⟩
  · exact hs.stay hw htable
  · refine hs.succeed_of_same hw fun e => ?_
    rw [hentry]
    split
    · exact Entry.succeeds_touch (hs.sharing e) (hs.ages e)
    · exact hs.stays e
  · refine hs.place hw hlookup hway (State.granule_lt_of_findKey hfind) rfl ?_ (Nat.zero_le _) hentry
    simp [State.newClaim, Entry.ownerNotSharer, shareHas]

theorem exec_keeps_table {c : Instr} (hwindows : s.WindowsLawful) (hs : s.TableLawful) (h : exec c s = .next t) :
    t.TableLawful := by
  have hfreed (hw : Field.windows ∉ touched c) (hcases : ∀ e, t.entry e = s.entry e ∨ t.entry e = .free) :
      t.TableLawful := hs.freed (exec_same h hw) hcases
  have hfrees (hw : Field.windows ∉ touched c) (hcases : (t.slots = s.slots ∧ t.table = s.table)
      ∨ ∃ e, t.slots = (s.freeEntry e).slots ∧ t.table = (s.freeEntry e).table) : t.TableLawful := by
    rcases hcases with ⟨-, htable⟩ | ⟨e, -, htable⟩
    · exact hs.stay (exec_same h hw) htable
    · refine hfreed hw fun j => ?_
      rw [show t.entry j = (s.freeEntry e).entry j by rw [State.entry, htable, State.entry]]
      exact s.entry_freeEntry_cases e j
  by_cases hf : Field.table ∈ touched c
  · cases c <;> simp [touched] at hf
    case coldReset =>
      have hentry (e : EntryIndex) : t.entry e = .free := by
        rw [execColdReset_frame h]
        exact State.entry_reset e
      have hnone (e : EntryIndex) (k : Key) (hk : (t.entry e).key? = some k) : False := by
        rw [hentry] at hk
        cases hk
      exact ⟨fun e k hk => (hnone e k hk).elim, fun e _ k hk _ => (hnone e k hk).elim,
        fun e k hk => (hnone e k hk).elim, fun e => hentry e ▸ trivial, fun e => hentry e ▸ trivial⟩
    case admission =>
      rcases execAdmission_takes h with hsame | ⟨r, k, -, -, hadmitted, htakes⟩
      · exact hs.stay (exec_same h (f := .windows) (by simp [touched])) hsame.table
      · exact hs.take (exec_same h (f := .windows) (by simp [touched])) htakes
    case send =>
      refine hfreed (by simp [touched]) fun e => ?_
      rcases execSend_cases h with rfl | ⟨k, rest, a, p, l, -, -, ⟨-, rfl⟩ | ⟨-, rfl⟩⟩
      · exact .inl rfl
      · exact .inl rfl
      · exact State.entry_timeOut _ k e
    case downstreamResponse =>
      refine hs.succeed_of_same (exec_same h (f := .windows) (by simp [touched])) fun e => ?_
      rcases execDownstreamResponse_entry h e with he | he | ⟨key, c, hx, he⟩
      · exact he ▸ hs.stays e
      · exact .inl he
      · have hsharing := hs.sharing e
        have hages := hs.ages e
        rw [hx] at hsharing hages ⊢
        exact .inr (he ▸ ⟨rfl, hsharing, hages⟩)
    case deadlineExpiry k =>
      refine hfreed (by simp [touched]) fun e => ?_
      rw [exec, execDeadlineExpiry] at h
      split at h
      next a l d _ =>
        split at h <;> cases h
        · exact (s.putNow (max s.now d)).entry_timeOut k e
        · exact .inl rfl
      next =>
        cases h
        exact .inl rfl
    case forcedTimeout k =>
      refine hfreed (by simp [touched]) fun e => ?_
      rw [exec, execForcedTimeout] at h
      split at h <;> cases h
      · exact s.entry_timeOut k e
      · exact .inl rfl
    case sweepStep =>
      have hw : t.windows = s.windows := exec_same h (f := .windows) (by simp [touched])
      rcases execSweepStep_entry h with htable | ⟨e, hentry⟩
      · exact hs.stay hw htable
      · refine hs.replace hw (Entry.succeeds_swept ?_ (hs.sharing e) (hs.ages e)) hentry
        unfold State.limitFor
        split
        · exact (hwindows.each _).ageLimit.2
        · exact Nat.zero_le _
    case purgeStep => exact hfrees (by simp [touched]) (execPurgeStep_cases h)
    case reownStep =>
      have hw : t.windows = s.windows := exec_same h (f := .windows) (by simp [touched])
      rcases execReownStep_entry h with htable | ⟨e, target, -, hentry⟩
      · exact hs.stay hw htable
      · exact hs.replace hw (Entry.succeeds_reowned target (hs.ages e)) hentry
    case clearStep =>
      rcases execClearStep_cases h with rfl | ⟨-, -, rfl⟩
      · exact hs
      · refine hs.succeed_of_same rfl fun e => ?_
        rw [State.entry_clear]
        exact Entry.succeeds_withoutClaim (hs.sharing e)
    case insertEntry m =>
      refine runCommand_keeps_table hs ?_ h
      rcases insertEntryBody_cases m s with hb | ⟨key, e, x, hx, hsize, hlookup, hway, hb⟩ <;> rw [hb]
      · exact hs
      · obtain ⟨hkey, hsharing, hages⟩ := insertedEntry_spec hx
        exact hs.place rfl hlookup hway hsize hkey hsharing hages (s.entry_putEntry e x)
    case updateEntry m c =>
      refine runCommand_keeps_table hs ?_ h
      rcases updateEntryBody_cases m c s with hb | ⟨e, convert, -, hb⟩ <;> rw [hb]
      · exact hs
      · exact hs.replace rfl (Entry.succeeds_updated m convert (hs.ages e)) (s.entry_putEntry e _)
    case deleteEntry => exact hfrees (by simp [touched]) (exec_deleteEntry_cases h)
  · have htable : t.table = s.table := exec_same h hf
    refine hs.succeed (exec_keeps_belowSize hs ?_ h) fun e => ?_
    · rintro rfl
      simp [touched] at hf
    · rw [show t.entry e = s.entry e by rw [State.entry, htable, State.entry]]
      exact hs.stays e

/-- Settles O51: every command keeps the windows' laws, and with them the table's. -/
theorem stepsKeepTheWindowAndTableLaws : Obligations.StepsKeepTheWindowAndTableLaws := by
  intro s t hs h
  refine step_keeps (P := fun s => s.WindowsLawful ∧ s.TableLawful) ?_ ?_ ?_ hs h
  · exact fun s l h => ⟨h.1.of_same rfl, h.2.stay rfl rfl⟩
  · exact fun s n h => ⟨h.1.of_same rfl, h.2.stay rfl rfl⟩
  · exact fun c s t ⟨hwindows, htable⟩ h => ⟨exec_keeps_windows hwindows h, exec_keeps_table hwindows htable h⟩

/-! ### What was set -/

/-- R5: an entry that the controller has set: PINNED or BARRED. -/
def Entry.isSet : Entry → Bool
  | .pinned _ _ => true
  | .barred _ => true
  | _ => false

theorem Entry.isSet_iff {x : Entry} : x.isSet = true ↔ (∃ key pin, x = .pinned key pin) ∨ ∃ key, x = .barred key := by
  cases x <;> simp [Entry.isSet]

theorem Entry.touch_of_isSet {x : Entry} (h : x.isSet = true) : x.touch = x := by
  cases x with
  | pinned | barred => rfl
  | free | claimed => cases h

theorem Entry.swept_of_isSet {x : Entry} (h : x.isSet = true) (limit : Nat) : x.swept limit = x := by
  cases x with
  | pinned | barred => rfl
  | free | claimed => cases h

theorem Entry.withoutClaim_of_isSet {x : Entry} (h : x.isSet = true) : x.withoutClaim = x := by
  cases x with
  | pinned | barred => rfl
  | free | claimed => cases h

/-- What is set stays where it is not FREE's place that is taken. -/
theorem Entry.ne_of_isSet {e' : EntryIndex} (h : (s.entry e).isSet = true) (hfree : s.entry e' = .free) : e ≠ e' := by
  rintro rfl
  rw [hfree] at h
  cases h

/-- R17, R118: a timeout of a slot whose link agrees frees no entry that is set. -/
theorem State.entry_timeOut_of_isSet (hs : s.LinksLawful) (k : SlotNo) (h : (s.entry e).isSet = true) :
    (s.timeOut k).entry e = s.entry e := by
  by_cases hout : ∃ a l d, s.slot k = .outstanding a l d
  · obtain ⟨a, l, d, hout⟩ := hout
    have hagrees := hs.agrees (k := k) (link := l) (by rw [hout]; rfl)
    obtain ⟨-, -, hentry, -, -⟩ := State.timeOut_spec s hout hagrees
    rw [hentry, if_neg]
    intro hl
    obtain ⟨key, c, hx, -⟩ := hagrees e hl
    rw [hx] at h
    cases h
  · rw [State.timeOut_of_not_outstanding s fun a l d h => hout ⟨a, l, d, h⟩]

/-- R5, R31: no command but UPDATE_ENTRY, DELETE_ENTRY, a PURGE or REOWN step and cold reset changes an entry that is
set. -/
theorem exec_keeps_set_entry {c : Instr} (hs : s.LinksLawful) (h : exec c s = .next t) (hset : (s.entry e).isSet = true)
    (hc : c ≠ .coldReset ∧ c ≠ .purgeStep ∧ c ≠ .reownStep ∧ (∀ m b, c ≠ .updateEntry m b)
      ∧ ∀ w g, c ≠ .deleteEntry w g) : t.entry e = s.entry e := by
  have hsame (h : t.table = s.table) : t.entry e = s.entry e := by rw [State.entry, h, State.entry]
  by_cases hf : Field.table ∈ touched c
  · cases c <;> simp [touched] at hf hc
    case admission =>
      rcases execAdmission_takes h with hsm | ⟨r, k, -, -, -, htakes⟩
      · exact hsame hsm.table
      · rcases htakes with ⟨_, _, _, htable⟩ | ⟨granted, _, _, hentry⟩ | ⟨key, e', _, _, _, _, _, hway, hentry⟩
        · exact hsame htable
        · rw [hentry]
          split
          · exact Entry.touch_of_isSet hset
          · rfl
        · rw [hentry, if_neg (Entry.ne_of_isSet hset (s.freeWay_some hway).1)]
    case send =>
      rcases execSend_cases h with rfl | ⟨k, rest, a, p, l, -, hk, ⟨-, rfl⟩ | ⟨-, rfl⟩⟩
      · rfl
      · rfl
      · refine State.entry_timeOut_of_isSet (s := s.sendHead k rest a p l) ?_ k hset
        refine hs.of_same (fun j => ?_) fun e => rfl
        rw [State.slot_sendHead]
        split
        next hj => rw [hj, hk]; exact ⟨rfl, fun _ => rfl⟩
        next => exact ⟨rfl, fun _ => rfl⟩
    case downstreamResponse k status data =>
      by_cases hout : ∃ a l d, s.slot k = .outstanding a l d
      · obtain ⟨a, l, d, hout⟩ := hout
        have hagrees := hs.agrees (k := k) (link := l) (by rw [hout]; rfl)
        obtain ⟨u, hu, -, hothers, -, -⟩ := downstreamResponse_answers (status := status) (data := data) hout hagrees
        obtain rfl : u = t := Host.Outcome.next.inj (hu.symm.trans h)
        refine hothers e fun hl => ?_
        obtain ⟨key, c, hx, -⟩ := hagrees e hl
        rw [hx] at hset
        cases hset
      · rw [exec, execDownstreamResponse] at h
        split at h
        next a l d hk => exact absurd ⟨a, l, d, hk⟩ hout
        all_goals
          cases h
          simp
    case deadlineExpiry k =>
      rw [exec, execDeadlineExpiry] at h
      split at h
      next a l d _ =>
        split at h <;> cases h
        · exact State.entry_timeOut_of_isSet (s := s.putNow (max s.now d)) (hs.stay rfl rfl) k hset
        · rfl
      next =>
        cases h
        rfl
    case forcedTimeout k =>
      rw [exec, execForcedTimeout] at h
      split at h <;> cases h
      · exact State.entry_timeOut_of_isSet hs k hset
      · rfl
    case sweepStep =>
      rcases execSweepStep_entry h with htable | ⟨e', hentry⟩
      · exact hsame htable
      · rw [hentry]
        split
        next he => subst he; exact Entry.swept_of_isSet hset _
        next => rfl
    case clearStep =>
      rcases execClearStep_cases h with rfl | ⟨-, -, rfl⟩
      · rfl
      · rw [State.entry_clear, Entry.withoutClaim_of_isSet hset]
    case insertEntry m =>
      rcases runCommand_part State.table (fun _ _ _ => rfl) h with h | h
      · exact hsame h
      · rcases insertEntryBody_cases m s with hb | ⟨key, e', x, -, -, -, hway, hb⟩ <;> rw [hb] at h
        · exact hsame h
        · rw [State.entry, h]
          exact s.entry_putEntry_of_ne e' x e (Entry.ne_of_isSet hset (s.freeWay_some hway).1)
  · exact hsame (exec_same h hf)

/-- Settles O58: no command but the ones named changes what is set, none of them falls due, and a tick changes no entry. -/
theorem pinnedAndBarredEntriesStay : Obligations.PinnedAndBarredEntriesStay := by
  intro s t e hs h hset hcommand
  rw [← Entry.isSet_iff] at hset
  rcases step_cases h with ⟨c, rest, hp, hc⟩ | ⟨-, c, hdue, hc⟩ | ⟨-, -, rfl⟩
  · exact exec_keeps_set_entry (s := { s with pending := rest }) (hs.stay rfl rfl) hc hset (hcommand c rest hp)
  · refine exec_keeps_set_entry hs hc hset ?_
    rcases dueBy_cases hdue with rfl | ⟨k, rfl⟩ | ⟨k, rfl⟩ | rfl | rfl <;> simp
  · rfl

end Sys2Proof.Machine

/-! The choice that an admission makes: the lane it serves and the slot it takes. -/

namespace Sys2Proof.Machine

set_option Elab.async false

variable {s t : State} {i : Initiator} {k : SlotNo}

theorem Slot.occupied_eq_false {x : Slot} : x.occupied = false ↔ x = .free := by
  cases x <;> simp [Slot.occupied]

/-- R50: the two conditions of a lane. -/
theorem State.laneEligible_iff : s.laneEligible i = true ↔ (∃ r, s.lane i = some r) ∧ (s.gate i).state ≠ .held := by
  simp [State.laneEligible, Option.isSome_iff_exists]

/-- R67: the slot an admission takes. -/
theorem State.freeSlot_eq_some_iff : s.freeSlot = some k ↔ s.slot k = .free ∧ ∀ j, j < k → s.slot j ≠ .free := by
  rw [State.freeSlot, find_finRange]
  simp [Slot.occupied_eq_false, ← Bool.not_eq_false]

theorem State.freeSlot_eq_none_iff : s.freeSlot = none ↔ ∀ k, s.slot k ≠ .free := by
  simp [State.freeSlot, List.find?_eq_none, ← Slot.occupied_eq_false]

/-- R50, R51: while no RESTART runs and a slot is FREE, the lane is searched for from the pointer upward. -/
theorem State.chosenLane_of_open (hrunning : s.long.kind ≠ .restart) (hfree : ∃ k, s.slot k = .free) :
    s.chosenLane = (rotation s.roundRobin).find? s.laneEligible := by
  have hslot : s.freeSlot ≠ none := fun h => absurd hfree (by simpa using State.freeSlot_eq_none_iff.mp h)
  have hrestart : s.restarting ≠ true := fun h => hrunning ((s.restarting_iff).mp h)
  simp [State.chosenLane, hrestart, hslot]

/-- R50: while RESTART runs, and while no slot is FREE, admission is stopped. -/
theorem State.chosenLane_of_closed (h : s.long.kind = .restart ∨ ∀ k, s.slot k ≠ .free) : s.chosenLane = none := by
  rcases h with h | h
  · simp [State.chosenLane, (s.restarting_iff).mpr h]
  · simp [State.chosenLane, State.freeSlot_eq_none_iff.mpr h]

/-- R52: with no lane chosen there is no admission. -/
theorem exec_admission_of_none (h : s.chosenLane = none) : exec .admission s = .next s := by
  change execAdmission s = _
  simp only [execAdmission, h]

/-- Settles O5: where admission is open, by the search from the pointer; where it is stopped, no lane is eligible. -/
theorem admissionChoosesFirstEligibleLane : Obligations.AdmissionChoosesFirstEligibleLane := by
  intro s eligible
  have hopen (hrunning : s.long.kind ≠ .restart) (hfree : ∃ k, s.slot k = .free) (i : Initiator) :
      eligible i ↔ s.laneEligible i = true := by
    simp only [eligible, State.laneEligible_iff, hrunning, hfree, not_false_eq_true, and_true, ne_eq]
  have hclosed (h : s.long.kind = .restart ∨ ∀ k, s.slot k ≠ .free) (i : Initiator) : ¬ eligible i := by
    rintro ⟨-, -, hrunning, k, hk⟩
    exact h.elim hrunning fun hfree => hfree k hk
  by_cases hstop : s.long.kind = .restart ∨ ∀ k, s.slot k ≠ .free
  · have hnone := State.chosenLane_of_closed hstop
    refine ⟨fun i => ?_, fun k => State.freeSlot_eq_some_iff, fun _ => exec_admission_of_none hnone⟩
    simp [hnone, hclosed hstop i]
  · obtain ⟨hrunning, hfree⟩ := not_or.mp hstop
    have hsearch := State.chosenLane_of_open hrunning (by simpa using hfree)
    have heligible := hopen hrunning (by simpa using hfree)
    refine ⟨fun i => ?_, fun k => State.freeSlot_eq_some_iff, fun hnone => exec_admission_of_none ?_⟩
    · rw [hsearch, find_rotation]
      simp only [heligible, Bool.not_eq_true]
    · rw [hsearch, find_rotation_none]
      simpa only [heligible, Bool.not_eq_true] using hnone

end Sys2Proof.Machine

/-! The substitute response of a refused access. -/

namespace Sys2Proof.Machine

set_option Elab.async false

variable {s : State} {r : Request}

/-- R72: where a window was found, its style and fill; where none was, the outside ones. -/
theorem State.substituteFor_eq {key : Option Key} {style : Style} {fill : BitVec 32}
    (h : (∃ k, key = some k ∧ (s.window k.window).style = style ∧ (s.window k.window).fill = fill)
      ∨ (key = none ∧ s.outside.style = style ∧ s.outside.fill = fill)) :
    s.substituteFor key r = substitute style fill r := by
  rcases h with ⟨k, rfl, rfl, rfl⟩ | ⟨rfl, rfl, rfl⟩ <;> rfl

/-- R73: the byte of the pattern that an address takes, as a field of the pattern. -/
theorem fillByte_eq (fill : BitVec 32) (a : Nat) : fillByte fill a = fill.extractLsb' (8 * (3 - a % 4)) 8 := by
  apply BitVec.eq_of_toNat_eq
  rw [fillByte, BitVec.toNat_ofNat, BitVec.extractLsb'_toNat, Nat.shiftRight_eq_div_pow, Nat.pow_mul]

/-- Settles O8: the substitute response for the window or the outside policy, by the style and the kind of access. -/
theorem substituteFollowsTheStyle : Obligations.SubstituteFollowsTheStyle := by
  intro s key r style fill hpolicy x
  have hx : x = substitute style fill r := State.substituteFor_eq hpolicy
  refine ⟨?loud, ?write, ?read⟩
  case loud =>
    rintro rfl
    rw [hx]
    rfl
  case write =>
    rintro rfl hwrite
    simp only [hx, substitute, hwrite]
  case read =>
    rintro rfl hread
    have hdata : x = ⟨.okay, fillData fill r.addr.toNat r.length⟩ := by simp only [hx, substitute, hread]
    rw [hdata]
    refine ⟨rfl, by simp [fillData], fun n hn => ?_⟩
    simp [fillData, hn, fillByte_eq]

end Sys2Proof.Machine

/-! The admission of a well-formed request, verdict by verdict. -/

namespace Sys2Proof.Machine

set_option Elab.async false

variable {s t : State} {r : Request} {k : SlotNo} {i : Initiator} {g : Gate} {j : Judgement} {reason : Reason} {key : Key}
  {e : EntryIndex}

/-! ### The outcome for each verdict -/

/-- The admission of a well-formed request comes to the outcome of its judgement. -/
theorem exec_admission_of_judge (h : s.Admits i r k) (hform : wellFormedRequest r) (hj : s.judge r = (j, false)) :
    exec .admission s = .next (s.outcome r j k) := by
  rw [exec_admission_of_admits h]
  simp [State.admitRequest, malformed_eq_false.mpr hform, hj]

/-- R85, R86: an enforced refusal is counted, and trips the gate where the threshold is nonzero and reached. -/
theorem Gate.tripStep_enforced (hg : g.state = .opened) (hr : reason ≠ .gateShut) (i : Initiator) :
    let count := min 255 (g.tripCount + 1)
    let trips := g.tripThreshold ≠ 0 ∧ g.tripThreshold ≤ count
    g.tripStep i (.refuse reason)
      = ({ g with tripCount := count, state := if trips then .shut else .opened },
          if trips then [.gateTripped i] else []) := by
  intro count trips
  have henforced : enforced g (.refuse reason) = true := by simp [enforced, hg, hr]
  by_cases htrips : trips
  · simp only [Gate.tripStep, henforced, if_true, htrips]
    exact if_pos htrips
  · simp only [Gate.tripStep, henforced, if_true, htrips, if_false, ← hg]
    exact if_neg htrips

/-- R68, R70, R71: a final refusal is answered with its substitute response, and reported; the table and the forward queue
stay. -/
theorem State.outcome_of_refuse (hv : j.verdict = .refuse reason) (hclaimed : j.claimed = none) (k : SlotNo) :
    let tripped := j.gate.tripStep r.initiator (.refuse reason)
    AdmittedTo s (s.outcome r j k) r.initiator k
    ∧ (s.outcome r j k).slot k = .ready (requestAccess r) (requestPayload r) (s.substituteFor j.key r) false
    ∧ (s.outcome r j k).forwardQueue = s.forwardQueue ∧ (s.outcome r j k).table = s.table
    ∧ (s.outcome r j k).gate r.initiator
        = { tripped.1 with admitted := tripped.1.admitted + 1, refused := tripped.1.refused + 1 }
    ∧ (s.outcome r j k).queue = (s.raiseAll (j.events
        ++ [.violation r.initiator (j.key.map Key.window) r.addr r.kind reason false] ++ tripped.2
        ++ highEvents r.initiator [(.admitted, tripped.1.admitted), (.refused, tripped.1.refused)])).queue := by
  intro tripped
  obtain ⟨hadmitted, hslot, htable, hforward, hgate, hqueue⟩ := s.outcome_spec r j k
  rw [State.slotOutcome_refuse s hv] at hslot htable hforward
  have hviolation : j.violation r = [.violation r.initiator (j.key.map Key.window) r.addr r.kind reason false] := by
    simp only [Judgement.violation, hv]
  have hcount (g : Gate) := g.countStep_refused r.initiator
  rw [hv, hclaimed] at hgate hqueue
  rw [hviolation] at hqueue
  refine ⟨hadmitted, hslot.trans (State.slot_putSlot_self ..), hforward, htable, hgate.trans ?_, hqueue.trans ?_⟩
  · exact congrArg Prod.fst (hcount tripped.1)
  · exact congrArg (fun es => (s.raiseAll (_ ++ es)).queue) (congrArg Prod.snd (hcount tripped.1))

/-- R67, R70: an access that passes without a claim joins the forward queue, and touches the entry granted. -/
theorem State.outcome_of_pass (hv : j.verdict = .pass) (hclaimed : j.claimed = none) (k : SlotNo) :
    AdmittedTo s (s.outcome r j k) r.initiator k
    ∧ (s.outcome r j k).slot k = .queued (requestAccess r) (requestPayload r) none
    ∧ (s.outcome r j k).forwardQueue = s.forwardQueue ++ [k]
    ∧ (s.outcome r j k).table = (s.tableOutcome r.initiator j k).table
    ∧ (s.outcome r j k).gate r.initiator = { j.gate with admitted := j.gate.admitted + 1 }
    ∧ (s.outcome r j k).queue = (s.raiseAll (j.events ++ j.violation r
        ++ highEvents r.initiator [(.admitted, j.gate.admitted)])).queue := by
  obtain ⟨hadmitted, hslot, htable, hforward, hgate, hqueue⟩ := s.outcome_spec r j k
  rw [State.slotOutcome_pass s hv] at hslot htable hforward
  rw [hv, hclaimed, Gate.tripStep_pass] at hgate hqueue
  have hcount := j.gate.countStep_plain r.initiator
  refine ⟨hadmitted, hslot.trans ?_, hforward, htable, hgate.trans (congrArg Prod.fst hcount), hqueue.trans ?_⟩
  · rw [State.slot_putSlot_self, hclaimed]
  · rw [List.append_nil]
    exact congrArg (fun es => (s.raiseAll (_ ++ es)).queue) (congrArg Prod.snd hcount)

/-- R63, R67, R70: an access that claims joins the forward queue, linked to the entry it has claimed. -/
theorem State.outcome_of_claim (hv : j.verdict = .pass) (hclaimed : j.claimed = some e) (hkey : j.key = some key)
    (hgranted : j.granted = none) (haudited : j.audited = none) (k : SlotNo) :
    AdmittedTo s (s.outcome r j k) r.initiator k
    ∧ (s.outcome r j k).slot k = .queued (requestAccess r) (requestPayload r) (some e)
    ∧ (s.outcome r j k).forwardQueue = s.forwardQueue ++ [k]
    ∧ (∀ e', (s.outcome r j k).entry e' = if e' = e then s.newClaim r.initiator key k else s.entry e')
    ∧ (s.outcome r j k).gate r.initiator
        = { j.gate with admitted := j.gate.admitted + 1, claims := j.gate.claims + 1 }
    ∧ (s.outcome r j k).queue = (s.raiseAll (j.events
        ++ highEvents r.initiator [(.admitted, j.gate.admitted), (.claims, j.gate.claims)])).queue := by
  obtain ⟨hadmitted, hslot, htable, hforward, hgate, hqueue⟩ := s.outcome_spec r j k
  rw [State.slotOutcome_pass s hv] at hslot htable hforward
  rw [hv, hclaimed, Gate.tripStep_pass] at hgate hqueue
  have hcount := j.gate.countStep_claimed r.initiator
  have hviolation : j.violation r = [] := by simp only [Judgement.violation, hv, haudited]
  refine ⟨hadmitted, hslot.trans ?_, hforward, fun e' => ?_, hgate.trans (congrArg Prod.fst hcount), hqueue.trans ?_⟩
  · rw [State.slot_putSlot_self, hclaimed]
  · rw [State.entry, htable]
    exact State.entry_tableOutcome_of_claimed hclaimed hkey hgranted ..
  · rw [hviolation, List.append_nil, List.append_nil]
    exact congrArg (fun es => (s.raiseAll (_ ++ es)).queue) (congrArg Prod.snd hcount)

/-- Where the judgement grants and claims nothing, the outcome leaves the table. -/
theorem State.table_tableOutcome_of_none (hclaimed : j.claimed = none) (hgranted : j.granted = none) (i : Initiator)
    (k : SlotNo) : (s.tableOutcome i j k).table = s.table := by
  simp only [State.tableOutcome, hclaimed, hgranted]

/-- R68, R85, R86: an enforced refusal: the local answer, the trip count, the refused count and the VIOLATION. -/
theorem State.outcome_enforced (hv : j.verdict = .refuse reason) (hclaimed : j.claimed = none)
    (hg : j.gate.state = .opened) (hr : reason ≠ .gateShut) (k : SlotNo) :
    let g := j.gate
    let count := min 255 (g.tripCount + 1)
    let trips := g.tripThreshold ≠ 0 ∧ g.tripThreshold ≤ count
    AdmittedTo s (s.outcome r j k) r.initiator k
    ∧ (s.outcome r j k).slot k = .ready (requestAccess r) (requestPayload r) (s.substituteFor j.key r) false
    ∧ (s.outcome r j k).forwardQueue = s.forwardQueue ∧ (s.outcome r j k).table = s.table
    ∧ (s.outcome r j k).gate r.initiator
        = { g with tripCount := count, state := if trips then .shut else .opened,
                   admitted := g.admitted + 1, refused := g.refused + 1 }
    ∧ (s.outcome r j k).queue = (s.raiseAll (j.events
        ++ .violation r.initiator (j.key.map Key.window) r.addr r.kind reason false
        :: (if trips then [.gateTripped r.initiator] else [])
        ++ highEvents r.initiator [(.admitted, g.admitted), (.refused, g.refused)])).queue := by
  have h := State.outcome_of_refuse (s := s) (r := r) hv hclaimed k
  rw [Gate.tripStep_enforced hg hr] at h
  obtain ⟨hadmitted, hslot, hforward, htable, hgate, hqueue⟩ := h
  exact ⟨hadmitted, hslot, hforward, htable, hgate, by simpa using hqueue⟩

/-- R66: a refusal that a LISTEN gate softens: the access goes to memory, reported as audited, and touches no entry. -/
theorem State.outcome_audited (hv : j.verdict = .refuse reason) (hclaimed : j.claimed = none)
    (hg : j.gate.state = .listen) (k : SlotNo) :
    AdmittedTo s (s.outcome r j.auditStep k) r.initiator k
    ∧ (s.outcome r j.auditStep k).slot k = .queued (requestAccess r) (requestPayload r) none
    ∧ (s.outcome r j.auditStep k).forwardQueue = s.forwardQueue ++ [k]
    ∧ (s.outcome r j.auditStep k).table = s.table
    ∧ (s.outcome r j.auditStep k).gate r.initiator = { j.gate with admitted := j.gate.admitted + 1 }
    ∧ (s.outcome r j.auditStep k).queue = (s.raiseAll (j.events
        ++ .violation r.initiator (j.key.map Key.window) r.addr r.kind reason true
        :: highEvents r.initiator [(.admitted, j.gate.admitted)])).queue := by
  rw [Judgement.auditStep_listen hv hg]
  obtain ⟨hadmitted, hslot, hforward, htable, hgate, hqueue⟩ :=
    State.outcome_of_pass (s := s) (r := r) (j := { j with verdict := .pass, audited := some reason, granted := none })
      rfl hclaimed k
  exact ⟨hadmitted, hslot, hforward, htable.trans (State.table_tableOutcome_of_none (by exact hclaimed) rfl _ _), hgate,
    by simpa [Judgement.violation] using hqueue⟩

/-! ### The judgement, by what the window and table steps and the budget find -/

/-- What the window and table steps leave: the verdict, the key of the address and the entry granted. -/
theorem State.windowStep_eq (s : State) (r : Request) (g : Gate) : s.windowStep r g =
    ⟨(s.windowStep r g).verdict, s.findKey r.addr, (s.windowStep r g).granted, none, none, g, []⟩ := by
  obtain ⟨hgate, hevents, hclaimed, haudited⟩ := s.windowStep_start r g
  have hkey := s.windowStep_key r g
  cases hw : s.windowStep r g with
  | mk verdict key granted claimed audited gate events =>
    rw [hw] at hgate hevents hclaimed haudited hkey
    subst hgate hevents hclaimed haudited hkey
    rfl

section

variable (hshut : (s.gate r.initiator).state ≠ .shut) (hp : (s.gate r.initiator).privileged = false)

include hshut hp

/-- R60: what the window and table steps refuse is not charged, and claims nothing. -/
theorem State.judge_of_refused (hv : (s.windowStep r (s.gate r.initiator)).verdict = .refuse reason) :
    s.judge r = (Judgement.auditStep ⟨.refuse reason, s.findKey r.addr, (s.windowStep r (s.gate r.initiator)).granted,
      none, none, s.gate r.initiator, []⟩, false) := by
  rw [State.judge_of_budgetStep hshut hp (Judgement.budgetStep_of_not_charged (by simp [Judgement.charged, hv])),
    State.claimStep_of_ne (by simp [hv]), State.windowStep_eq, hv]

variable (hv : (s.windowStep r (s.gate r.initiator)).verdict = .pass
  ∨ (s.windowStep r (s.gate r.initiator)).verdict = .claimDue)

include hv

/-- R89 to R91: a request that can still pass, from a gate it does not find exhausted, goes on with its charge. -/
theorem State.judge_of_not_exhausted (hx : ¬ (s.gate r.initiator).exhausted r) :
    s.judge r = ((s.claimStep r ⟨(s.windowStep r (s.gate r.initiator)).verdict, s.findKey r.addr,
      (s.windowStep r (s.gate r.initiator)).granted, none, none, (s.gate r.initiator).paid r,
      (s.gate r.initiator).payEvents r⟩).auditStep, false) := by
  refine State.judge_of_budgetStep hshut hp ?_
  rw [State.windowStep_eq]
  exact Judgement.budgetStep_of_not_exhausted hp hv hx

omit hshut in
/-- R90, R92, R93: the exhausted budget step: a hold, or a refusal BUDGET. -/
theorem State.budgetStep_of_exhausted (hx : (s.gate r.initiator).exhausted r) :
    (s.windowStep r (s.gate r.initiator)).budgetStep r =
      if (s.gate r.initiator).exhaust = .hold ∧ (s.gate r.initiator).state = .opened then
        (⟨(s.windowStep r (s.gate r.initiator)).verdict, s.findKey r.addr, (s.windowStep r (s.gate r.initiator)).granted,
          none, none, { s.gate r.initiator with state := .held }, [.budgetExhausted r.initiator]⟩, true)
      else (⟨.refuse .budget, s.findKey r.addr, (s.windowStep r (s.gate r.initiator)).granted, none, none,
        s.gate r.initiator, [.budgetExhausted r.initiator]⟩, false) := by
  rw [State.windowStep_eq]
  exact Judgement.budgetStep_of_exhausted hp hv hx

/-- R61, R93: a request that finds an OPEN gate with exhaust action HOLD exhausted is held. -/
theorem State.judge_of_held (hx : (s.gate r.initiator).exhausted r)
    (hhold : (s.gate r.initiator).exhaust = .hold ∧ (s.gate r.initiator).state = .opened) :
    s.judge r = (⟨(s.windowStep r (s.gate r.initiator)).verdict, s.findKey r.addr,
      (s.windowStep r (s.gate r.initiator)).granted, none, none, { s.gate r.initiator with state := .held },
      [.budgetExhausted r.initiator]⟩, true) :=
  State.judge_of_hold hshut hp ((State.budgetStep_of_exhausted hp hv hx).trans (if_pos hhold))

/-- R90, R92: any other request that finds its gate exhausted is refused BUDGET. -/
theorem State.judge_of_exhausted (hx : (s.gate r.initiator).exhausted r)
    (hhold : ¬ ((s.gate r.initiator).exhaust = .hold ∧ (s.gate r.initiator).state = .opened)) :
    s.judge r = (Judgement.auditStep ⟨.refuse .budget, s.findKey r.addr,
      (s.windowStep r (s.gate r.initiator)).granted, none, none, s.gate r.initiator,
      [.budgetExhausted r.initiator]⟩, false) := by
  rw [State.judge_of_budgetStep hshut hp ((State.budgetStep_of_exhausted hp hv hx).trans (if_neg hhold)),
    State.claimStep_of_ne (by simp)]

end

/-! ### The statements -/

/-- Settles O9: the refusal of the window or table step is the final one, and an OPEN gate enforces it. -/
theorem openGateEnforcesRefusal : Obligations.OpenGateEnforcesRefusal := by
  intro s i r k reason hadmits hform hopened hp hv g count trips
  obtain rfl : r.initiator = i := hadmits.own
  have hreason : reason ≠ .gateShut := fun h => s.windowStep_ne_gateShut r _ (hv.trans (h ▸ rfl))
  have hjudge := State.judge_of_refused (by simp [hopened]) hp hv
  rw [Judgement.auditStep_of_ne_listen (by simp [hopened])] at hjudge
  exact ⟨_, exec_admission_of_judge hadmits hform hjudge, State.outcome_enforced rfl rfl hopened hreason k⟩

/-- Settles O10: the judgement of a SHUT gate is a refusal for a reason that no gate counts toward a trip. -/
theorem shutGateRefusesEverything : Obligations.ShutGateRefusesEverything := by
  intro s i r k hadmits hform hshut
  obtain rfl : r.initiator = i := hadmits.own
  have h := State.outcome_of_refuse (s := s) (r := r)
    (j := .start (.refuse .gateShut) (s.findKey r.addr) (s.gate r.initiator)) rfl rfl k
  rw [Gate.tripStep_of_not_opened (by simp [Judgement.start, hshut])] at h
  obtain ⟨hadmitted, hslot, hforward, htable, hgate, hqueue⟩ := h
  exact ⟨_, exec_admission_of_judge hadmits hform (State.judge_of_shut hshut), hadmitted, hslot, hforward, htable, hgate,
    hqueue⟩

/-- Settles O11: the refusal of the window or table step reaches the audit step, where a LISTEN gate softens it. -/
theorem listenGateAuditsRefusal : Obligations.ListenGateAuditsRefusal := by
  intro s i r k reason hadmits hform hlisten hp hv
  obtain rfl : r.initiator = i := hadmits.own
  exact ⟨_, exec_admission_of_judge hadmits hform (State.judge_of_refused (by simp [hlisten]) hp hv),
    State.outcome_audited rfl rfl hlisten k⟩

/-- R12: a touch marks a CLAIMED entry, and leaves every other kind. -/
theorem Entry.touch_of_not_claimed {x : Entry} (h : ∀ key c, x ≠ .claimed key c) : x.touch = x := by
  cases x with
  | claimed key c => exact absurd rfl (h key c)
  | _ => rfl

/-- R12, R67: everything that an access passed with this judgement does, where it makes no claim and is not audited. -/
theorem passedAccess_of_judge (hadmits : s.Admits r.initiator r k) (hform : wellFormedRequest r)
    (hj : s.judge r = (j, false)) (hv : j.verdict = .pass) (hclaimed : j.claimed = none) (haudited : j.audited = none) :
    ∃ t, exec .admission s = .next t ∧ AdmittedTo s t r.initiator k
      ∧ t.slot k = .queued (requestAccess r) (requestPayload r) none
      ∧ t.forwardQueue = s.forwardQueue ++ [k]
      ∧ (∀ e, j.granted = some e → ∀ key c, s.entry e = .claimed key c →
          t.entry e = .claimed key { c with touched := true })
      ∧ (∀ e, (j.granted ≠ some e ∨ ∀ key c, s.entry e ≠ .claimed key c) → t.entry e = s.entry e)
      ∧ t.gate r.initiator = { j.gate with admitted := j.gate.admitted + 1 }
      ∧ t.queue = (s.raiseAll (j.events ++ highEvents r.initiator [(.admitted, j.gate.admitted)])).queue := by
  obtain ⟨hadmitted, hslot, hforward, htable, hgate, hqueue⟩ := State.outcome_of_pass (s := s) (r := r) hv hclaimed k
  have hentry (e : EntryIndex) :
      (s.outcome r j k).entry e = if j.granted = some e then (s.entry e).touch else s.entry e := by
    rw [State.entry, htable]
    exact State.entry_tableOutcome_of_granted hclaimed ..
  refine ⟨_, exec_admission_of_judge hadmits hform hj, hadmitted, hslot, hforward, fun e he key c hx => ?touched,
    fun e he => ?others, hgate, ?events⟩
  case touched => rw [hentry, if_pos he, hx, Entry.touch]
  case others =>
    rw [hentry]
    split
    next hgranted => exact Entry.touch_of_not_claimed (he.resolve_left fun hne => hne hgranted)
    next => rfl
  case events => simpa [Judgement.violation, hv, haudited] using hqueue

/-- Settles O12: a privileged gate's judgement passes at once and charges nothing; another gate's passes with what the window
and table steps granted, after its charge. -/
theorem passedAccessIsForwarded : Obligations.PassedAccessIsForwarded := by
  intro s i r k hadmits hform granted hpass
  obtain rfl : r.initiator = i := hadmits.own
  rcases hpass with ⟨hp, hshut, rfl⟩ | ⟨hp, hstate, hv, rfl, hx⟩
  · have hmeters : (s.gate r.initiator).meters r = false := by simp [Gate.meters, hp]
    have hpaid : (s.gate r.initiator).paid r = s.gate r.initiator := by simp [Gate.paid, hmeters]
    have hevents : (s.gate r.initiator).payEvents r = [] := by simp [Gate.payEvents, hmeters]
    rw [hpaid, hevents]
    exact passedAccess_of_judge hadmits hform (State.judge_of_privileged hshut hp) rfl rfl rfl
  · have hshut : (s.gate r.initiator).state ≠ .shut := by rcases hstate with h | h <;> simp [h]
    have hadmitted : ((s.gate r.initiator).paid r).admitted = (s.gate r.initiator).admitted := by rw [Gate.paid_eq]
    have hjudge := State.judge_of_not_exhausted hshut hp (.inl hv) hx
    rw [State.claimStep_of_ne (by simp [hv]), Judgement.auditStep_of_pass (by exact hv)] at hjudge
    have h := passedAccess_of_judge hadmits hform hjudge hv rfl rfl
    rwa [hadmitted] at h

/-! ### A write that is due to claim -/

/-- R59: a write to an unlisted granule of a LEARN window is due to claim it. -/
theorem State.windowStep_of_unlisted_learn (hwrite : r.kind = .write) (hfind : s.findKey r.addr = some key)
    (hlearn : (s.window key.window).mode = .learn) (hlookup : s.lookup key = none) :
    s.windowStep r g = .start .claimDue (some key) g := by
  rw [State.windowStep_table hfind (.inl hlearn), State.tableStep_unlisted hlookup, hlearn, hwrite]
  rfl

section

variable (hshut : (s.gate r.initiator).state ≠ .shut) (hp : (s.gate r.initiator).privileged = false)
  (hx : ¬ (s.gate r.initiator).exhausted r) (hwrite : r.kind = .write) (hfind : s.findKey r.addr = some key)
  (hlearn : (s.window key.window).mode = .learn) (hlookup : s.lookup key = none)

include hshut hp hx hwrite hfind hlearn hlookup

/-- R63: the charged write takes the FREE way that placement finds. -/
theorem State.judge_of_placed (hway : s.freeWay key = some e) :
    s.judge r = (⟨.pass, some key, none, some e, none, (s.gate r.initiator).paid r, (s.gate r.initiator).payEvents r
      ++ if (s.window key.window).reportLearning then [.learned r.initiator key.window r.addr e] else []⟩, false) := by
  have hstep := State.windowStep_of_unlisted_learn (g := s.gate r.initiator) hwrite hfind hlearn hlookup
  rw [State.judge_of_not_exhausted hshut hp (.inr (by rw [hstep]; rfl)) hx, hstep, hfind, State.claimStep_placed rfl rfl hway,
    Judgement.auditStep_of_pass rfl]
  rfl

/-- R64: the charged write meets the window's full action. -/
theorem State.judge_of_full (hway : s.freeWay key = none) :
    s.judge r = (Judgement.auditStep
      ⟨if (s.window key.window).fullAction = .refuse then .refuse .tableFull else .pass, some key, none, none, none,
        (s.gate r.initiator).paid r,
        (s.gate r.initiator).payEvents r ++ [.learnFull r.initiator key.window r.addr]⟩, false) := by
  have hstep := State.windowStep_of_unlisted_learn (g := s.gate r.initiator) hwrite hfind hlearn hlookup
  rw [State.judge_of_not_exhausted hshut hp (.inr (by rw [hstep]; rfl)) hx, hstep, hfind, State.claimStep_full rfl rfl hway]
  rfl

end

/-- A charge moves neither the state of the gate nor its counters. -/
theorem Gate.paid_keeps (g : Gate) (r : Request) :
    (g.paid r).state = g.state ∧ (g.paid r).admitted = g.admitted ∧ (g.paid r).claims = g.claims := by
  rw [Gate.paid_eq]
  exact ⟨rfl, rfl, rfl⟩

/-- Settles O13: the claim step of the charged judgement takes the lowest FREE way. -/
theorem learningWriteClaimsGranule : Obligations.LearningWriteClaimsGranule := by
  intro s i r k key e hadmits hform hp hstate hx hwrite hfind hlearn hlookup hmem hfree hlowest w
  obtain rfl : r.initiator = i := hadmits.own
  have hshut : (s.gate r.initiator).state ≠ .shut := by rcases hstate with h | h <;> simp [h]
  have hjudge := State.judge_of_placed hshut hp hx hwrite hfind hlearn hlookup (State.freeWay_of hmem hfree hlowest)
  obtain ⟨-, hadmittedCount, hclaims⟩ := (s.gate r.initiator).paid_keeps r
  obtain ⟨hadmitted, hslot, hforward, hentry, hgate, hqueue⟩ :=
    State.outcome_of_claim (s := s) (r := r) (j := (s.judge r).1) (e := e) (key := key) (by rw [hjudge]) (by rw [hjudge])
      (by rw [hjudge]) (by rw [hjudge]) (by rw [hjudge]) k
  rw [hjudge] at hadmitted hslot hforward hentry hgate hqueue
  simp only [hadmittedCount, hclaims] at hgate hqueue
  exact ⟨_, exec_admission_of_judge hadmits hform hjudge, hadmitted, (hentry e).trans (if_pos rfl),
    fun e' he' => (hentry e').trans (if_neg he'), hslot, hforward, hgate, hqueue⟩

/-- Settles O14: the claim step of the charged judgement meets the window's full action, which passes the write, or refuses
it for an OPEN gate to enforce and a LISTEN gate to audit. -/
theorem fullBucketTakesTheFullAction : Obligations.FullBucketTakesTheFullAction := by
  intro s i r k key hadmits hform hp hstate hx hwrite hfind hlearn hlookup hfull g paid count trips
  obtain rfl : r.initiator = i := hadmits.own
  have hshut : (s.gate r.initiator).state ≠ .shut := by rcases hstate with h | h <;> simp [h]
  have hjudge := State.judge_of_full hshut hp hx hwrite hfind hlearn hlookup (State.freeWay_none_of hfull)
  have hpaid : g.state = (s.gate r.initiator).state := ((s.gate r.initiator).paid_keeps r).1
  cases haction : (s.window key.window).fullAction with
  | passUnowned =>
    rw [haction, if_neg (by simp), Judgement.auditStep_of_pass rfl] at hjudge
    obtain ⟨hadmitted, hslot, hforward, htable, hgate, hqueue⟩ :=
      State.outcome_of_pass (s := s) (r := r) (j := (s.judge r).1) (by rw [hjudge]) (by rw [hjudge]) k
    rw [hjudge] at hadmitted hslot hforward htable hgate hqueue
    exact ⟨_, exec_admission_of_judge hadmits hform hjudge, hadmitted, htable,
      fun _ => ⟨hslot, hforward, hgate, by simpa [Judgement.violation] using hqueue⟩, nofun, nofun⟩
  | refuse =>
    rw [haction, if_pos rfl] at hjudge
    rcases hstate with hopened | hlisten
    · have hg : g.state = .opened := hpaid.trans hopened
      rw [Judgement.auditStep_of_ne_listen (by exact hg ▸ nofun)] at hjudge
      have h := State.outcome_enforced (s := s) (r := r) (reason := .tableFull) (j := (s.judge r).1) (by rw [hjudge])
        (by rw [hjudge]) (by rw [hjudge]; exact hg) nofun k
      rw [hjudge, hwrite] at h
      obtain ⟨hadmitted, hslot, hforward, htable, hgate, hqueue⟩ := h
      refine ⟨_, exec_admission_of_judge hadmits hform hjudge, hadmitted, htable, nofun, fun _ hl => ?_,
        fun _ _ => ⟨hslot, hforward, hgate, hqueue.trans ?_⟩⟩
      · rw [hg] at hl
        cases hl
      · exact congrArg (fun es => (s.raiseAll (es ++ _)).queue) (List.append_assoc ..)
    · have hg : g.state = .listen := hpaid.trans hlisten
      have h := State.outcome_audited (s := s) (r := r) (reason := .tableFull) (j := ⟨.refuse .tableFull, some key, none,
        none, none, g, paid ++ [.learnFull r.initiator key.window r.addr]⟩) rfl rfl hg k
      rw [hwrite] at h
      obtain ⟨hadmitted, hslot, hforward, htable, hgate, hqueue⟩ := h
      refine ⟨_, exec_admission_of_judge hadmits hform hjudge, hadmitted, htable, nofun,
        fun _ _ => ⟨hslot, hforward, hgate, hqueue.trans ?_⟩, fun _ ho => ?_⟩
      · exact congrArg (fun es => (s.raiseAll es).queue) (List.append_assoc ..)
      · rw [hg] at ho
        cases ho

end Sys2Proof.Machine

/-! The budget step stage by stage, and the writes that find their gate exhausted. -/

namespace Sys2Proof.Machine

set_option Elab.async false

variable {s t : State} {r : Request} {k : SlotNo} {i : Initiator} {g : Gate} {j : Judgement}

/-- R88: the writes that the budget step runs for. -/
theorem Judgement.charged_eq_false (h : r.kind = .read ∨ (∃ reason, j.verdict = .refuse reason) ∨ j.gate.budgetOn = false) :
    j.charged r = false := by
  rcases h with h | ⟨reason, h⟩ | h <;> simp [Judgement.charged, h]

theorem Judgement.charged_eq_true (hwrite : r.kind = .write) (hv : j.verdict = .pass ∨ j.verdict = .claimDue)
    (hon : j.gate.budgetOn = true) : j.charged r = true := by
  simp [Judgement.charged, hwrite, hv, hon]

/-- R89: the reload of an empty gate that has a next amount. -/
theorem Gate.reload_of_empty (hempty : g.remaining = 0) (hnext : 0 < g.next) (i : Initiator) :
    g.reload i = ({ g with remaining := g.next, next := 0 }, [.budgetReloaded i g.next]) :=
  if_pos ⟨hempty, hnext⟩

/-- R89: there is no reload while anything remains, nor where there is nothing to reload. -/
theorem Gate.reload_of_not (h : 0 < g.remaining ∨ g.next = 0) (i : Initiator) : g.reload i = (g, []) :=
  if_neg fun hr => by omega

/-- R90, R92, R93: the exhaustion test of a gate that the first reload leaves empty. -/
theorem Judgement.budgetStep_empty (hc : j.charged r = true) (hempty : j.gate.remaining = 0) (hnext : j.gate.next = 0) :
    j.budgetStep r =
      if j.gate.exhaust = .hold ∧ j.gate.state = .opened then
        ({ j with gate := { j.gate with state := .held }, events := j.events ++ [.budgetExhausted r.initiator] }, true)
      else ({ j with verdict := .refuse .budget, events := j.events ++ [.budgetExhausted r.initiator] }, false) := by
  simp [Judgement.budgetStep, hc, Gate.reload_of_not (.inr hnext), hempty]

/-- R91: a charge that reloads before it, and so not after it. -/
theorem Judgement.budgetStep_reloading (hc : j.charged r = true) (hempty : j.gate.remaining = 0) (hnext : 0 < j.gate.next) :
    j.budgetStep r = ({ j with gate := { j.gate with remaining := j.gate.next - r.length, next := 0 },
                               events := j.events ++ [.budgetReloaded r.initiator j.gate.next] }, false) := by
  have hafter : Gate.reload ({ j.gate with remaining := j.gate.next - r.length, next := 0 } : Gate) r.initiator = (_, []) :=
    Gate.reload_of_not (.inr rfl) r.initiator
  simp [Judgement.budgetStep, hc, Gate.reload_of_empty hempty hnext, Nat.ne_of_gt hnext, Gate.charge, hafter]

/-- R91: a charge of a gate with something remaining, and the reload that may follow it. -/
theorem Judgement.budgetStep_charging (hc : j.charged r = true) (hremaining : 0 < j.gate.remaining) :
    j.budgetStep r = ({ j with gate := ((j.gate.charge r.length).reload r.initiator).1,
                               events := j.events ++ ((j.gate.charge r.length).reload r.initiator).2 }, false) := by
  simp [Judgement.budgetStep, hc, Gate.reload_of_not (.inl hremaining), Nat.ne_of_gt hremaining]

/-- Settles O15: one stage after another: the exhaustion test, the reload before the charge, the charge, and the reload
after it. -/
theorem budgetStepRunsItsStages : Obligations.BudgetStepRunsItsStages := by
  intro j r
  refine ⟨fun h => Judgement.budgetStep_of_not_charged (Judgement.charged_eq_false h), fun hwrite hv hon => ?_⟩
  intro i g
  have hc := Judgement.charged_eq_true hwrite hv hon
  refine ⟨?hold, ?refuse, ?before, ?charge, ?takesAll, ?after⟩
  case hold =>
    intro hempty hnext hexhaust hopened
    rw [Judgement.budgetStep_empty hc hempty hnext, if_pos ⟨hexhaust, hopened⟩]
    exact ⟨rfl, rfl, rfl⟩
  case refuse =>
    intro hempty hnext hnot
    rw [Judgement.budgetStep_empty hc hempty hnext, if_neg hnot]
  case before => exact Judgement.budgetStep_reloading hc
  case charge =>
    intro hless
    rw [Judgement.budgetStep_charging hc (Nat.zero_lt_of_lt hless), Gate.reload_of_not (.inl (by exact Nat.sub_pos_of_lt hless)),
      List.append_nil]
    rfl
  case takesAll =>
    intro hremaining hless hnext
    have hzero : g.remaining - r.length = 0 := Nat.sub_eq_zero_of_le hless
    rw [Judgement.budgetStep_charging hc hremaining, Gate.reload_of_not (.inr (by exact hnext)), List.append_nil, Gate.charge,
      hzero]
  case after =>
    intro hremaining hless hnext
    have hzero : (g.charge r.length).remaining = 0 := Nat.sub_eq_zero_of_le hless
    rw [Judgement.budgetStep_charging hc hremaining, Gate.reload_of_empty hzero (by exact hnext)]
    rfl

/-- R61: a budget hold changes the gate and the events alone. -/
theorem State.holdRequest_spec (s : State) (r : Request) (j : Judgement) :
    (s.holdRequest r j).gate r.initiator = j.gate
    ∧ (∀ i, i ≠ r.initiator → (s.holdRequest r j).gate i = s.gate i)
    ∧ (s.holdRequest r j).queue = (s.raiseAll j.events).queue
    ∧ s.holdRequest r j = { s with gates := (s.holdRequest r j).gates, queue := (s.holdRequest r j).queue } := by
  refine ⟨by simp [State.holdRequest], fun i hi => by simp [State.holdRequest, State.gate_putGate_of_ne _ _ _ _ hi],
    State.raiseAll_queue_congr s (by simp) (by simp) _, ?_⟩
  rw [State.holdRequest, State.raiseAll_eq]
  rfl

/-- R61, R93: a well-formed request that the budget step holds stays where it is. -/
theorem exec_admission_of_held (h : s.Admits i r k) (hform : wellFormedRequest r) (hj : s.judge r = (j, true)) :
    exec .admission s = .next (s.holdRequest r j) := by
  rw [exec_admission_of_admits h]
  simp [State.admitRequest, malformed_eq_false.mpr hform, hj]

/-- Settles O16: the exhausted judgement is a hold of an OPEN gate with HOLD, an enforced refusal of one with REFUSE, and an
audited one of a LISTEN gate. -/
theorem exhaustedBudgetHoldsRefusesOrIsSoftened : Obligations.ExhaustedBudgetHoldsRefusesOrIsSoftened := by
  intro s i r k hadmits hform hp hx hv g count trips window
  obtain rfl : r.initiator = i := hadmits.own
  have hwrite : r.kind = .write := by
    have := hx.1
    simp only [Gate.meters, Bool.and_eq_true, beq_iff_eq] at this
    exact this.2
  by_cases hopened : g.state = .opened
  · have hshut : (s.gate r.initiator).state ≠ .shut := fun h => nomatch hopened.symm.trans h
    have hnotListen : g.state ≠ .listen := fun h => nomatch hopened.symm.trans h
    by_cases hexhaust : g.exhaust = .hold
    · have hjudge := State.judge_of_held hshut hp hv hx ⟨hexhaust, hopened⟩
      exact ⟨_, exec_admission_of_held hadmits hform hjudge, fun _ _ => s.holdRequest_spec r _,
        fun _ h => (nomatch hexhaust.symm.trans h), fun h => absurd h hnotListen⟩
    · have hjudge := State.judge_of_exhausted hshut hp hv hx fun h => hexhaust h.1
      rw [Judgement.auditStep_of_ne_listen (by exact hnotListen)] at hjudge
      refine ⟨_, exec_admission_of_judge hadmits hform hjudge, fun _ h => absurd h hexhaust, fun _ _ => ?_,
        fun h => absurd h hnotListen⟩
      rw [← hwrite]
      exact State.outcome_enforced (reason := .budget) (j := ⟨.refuse .budget, _, _, none, none, _, _⟩) rfl rfl hopened nofun k
  · by_cases hlisten : g.state = .listen
    · have hjudge := State.judge_of_exhausted (fun h => nomatch hlisten.symm.trans h) hp hv hx fun h => hopened h.2
      refine ⟨_, exec_admission_of_judge hadmits hform hjudge, fun h => absurd h hopened, fun h => absurd h hopened,
        fun _ => ?_⟩
      rw [← hwrite]
      exact State.outcome_audited rfl rfl hlisten k
    · exact ⟨_, exec_admission_of_admits hadmits, fun h => absurd h hopened, fun h => absurd h hopened,
        fun h => absurd h hlisten⟩

end Sys2Proof.Machine

/-! An enforced write reaches memory only with ownership. -/

namespace Sys2Proof.Machine

set_option Elab.async false

variable {s t : State} {r : Request} {k : SlotNo} {i : Initiator} {key : Key} {e : EntryIndex} {g : Gate}

/-- R10: only the owner is granted a write. -/
theorem grant_write_pass {owner : Initiator} (share : ShareSet) (strict : Bool)
    (h : grant owner share strict i .write = .pass) : owner = i := by
  by_contra hne
  rw [grant_write (Ne.symm hne)] at h
  cases h

/-- R10, R59: the entry that passes a write is its initiator's. -/
theorem Entry.owned_of_verdict_write {x : Entry} (hkey : x.key? = some key) (h : x.verdict i .write = .pass) :
    (∃ c, x = .claimed key c ∧ c.owner = i) ∨ ∃ p, x = .pinned key p ∧ p.owner = i := by
  cases x with
  | free => cases h
  | barred => cases h
  | claimed k c =>
    obtain rfl := Option.some.inj hkey
    exact .inl ⟨c, rfl, grant_write_pass c.share c.strict h⟩
  | pinned k p =>
    obtain rfl := Option.some.inj hkey
    exact .inr ⟨p, rfl, grant_write_pass p.share p.strict h⟩

/-- R59: a table step on a write passes it to its owner, is due to claim for it, or refuses it. -/
theorem State.windowStep_write_cases (hwrite : r.kind = .write) (hfind : s.findKey r.addr = some key)
    (hmode : (s.window key.window).mode = .learn ∨ (s.window key.window).mode = .fixed) :
    (∃ reason, (s.windowStep r g).verdict = .refuse reason)
    ∨ (∃ e, s.lookup key = some e ∧ ((∃ c, s.entry e = .claimed key c ∧ c.owner = r.initiator)
        ∨ ∃ p, s.entry e = .pinned key p ∧ p.owner = r.initiator))
    ∨ ((s.window key.window).mode = .learn ∧ s.lookup key = none ∧ (s.windowStep r g).verdict = .claimDue) := by
  rw [State.windowStep_table hfind hmode]
  cases hlookup : s.lookup key with
  | none =>
    rw [State.tableStep_unlisted hlookup, hwrite]
    rcases hmode with hm | hm <;> rw [hm]
    · exact .inr (.inr ⟨rfl, rfl, rfl⟩)
    · exact .inl ⟨_, rfl⟩
  | some e =>
    cases hv : (s.entry e).verdict r.initiator r.kind with
    | pass =>
      rw [hwrite] at hv
      exact .inr (.inl ⟨e, rfl, Entry.owned_of_verdict_write (s.lookup_some hlookup).1 hv⟩)
    | refuse reason => exact .inl ⟨reason, by rw [State.tableStep_refused hlookup hv]; rfl⟩
    | claimDue =>
      obtain ⟨key', hfind', -, hnone, -⟩ := s.windowStep_claimDue (r := r) (g := g) (by
        rw [State.windowStep_table hfind hmode]; simp only [State.tableStep, hlookup, hv]; rfl)
      rw [hfind] at hfind'
      obtain rfl := Option.some.inj hfind'
      rw [hlookup] at hnone
      cases hnone

/-- R68: an outcome that leaves its slot QUEUED is no refusal. -/
theorem State.verdict_of_queued {j : Judgement} {a : SlotAccess} {p : Payload} {link : Option EntryIndex}
    (h : (s.outcome r j k).slot k = .queued a p link) (reason : Reason) : j.verdict ≠ .refuse reason := by
  intro hv
  obtain ⟨-, hslot, -⟩ := s.outcome_spec r j k
  rw [State.slotOutcome_refuse s hv, State.slot_putSlot_self, h] at hslot
  cases hslot

/-- R53: an admission that leaves its slot QUEUED is the outcome of a request that the budget step did not hold, and no
refusal. -/
theorem exec_admission_of_queued {a : SlotAccess} {p : Payload} {link : Option EntryIndex} (h : s.Admits i r k)
    (hexec : exec .admission s = .next t) (hslot : t.slot k = .queued a p link) :
    t = s.outcome r (s.judge r).1 k ∧ (s.judge r).2 = false ∧ ∀ reason, (s.judge r).1.verdict ≠ .refuse reason := by
  rw [exec_admission_of_admits h] at hexec
  cases hexec
  rcases s.admitRequest_cases r k with hcase | ⟨-, hcase⟩ | ⟨hheld, hcase⟩ <;> rw [hcase] at hslot ⊢
  · obtain ⟨-, hready, -⟩ := s.answerMalformed_spec r k
    rw [hslot] at hready
    cases hready
  · obtain ⟨-, -, -, hrest⟩ := s.holdRequest_spec r (s.judge r).1
    have hfree : (s.holdRequest r (s.judge r).1).slot k = .free := by
      rw [hrest]
      exact s.freeSlot_some h.slot
    rw [hslot] at hfree
    cases hfree
  · exact ⟨rfl, hheld, State.verdict_of_queued hslot⟩

/-- Settles O60: the verdict of the table step on the write, and for a due claim the FREE way it takes or the full bucket
that its window passes. -/
theorem enforcedWritesNeedOwnership : Obligations.EnforcedWritesNeedOwnership := by
  rintro s t i r k key hadmits hopened hp hwrite hfind hmode hexec ⟨a, p, l, hqueued⟩
  obtain ⟨rfl, hheld, hnotRefused⟩ := exec_admission_of_queued hadmits hexec hqueued
  obtain rfl : r.initiator = i := hadmits.own
  have hcases := State.windowStep_write_cases (g := s.gate r.initiator) hwrite hfind hmode
  obtain ⟨-, hstate, -⟩ := (s.windowStep r (s.gate r.initiator)).budgetStep_spec r
  rw [(s.windowStep_start r _).1] at hstate
  have hshut : (s.gate r.initiator).state ≠ .shut := by simp [hopened]
  have hjudge : s.judge r = (s.claimStep r ((s.windowStep r (s.gate r.initiator)).budgetStep r).1, false) := by
    rcases s.judge_cases r with ⟨h, -⟩ | ⟨-, h, -⟩ | ⟨-, -, -, h⟩ | ⟨-, -, hb, h⟩
    · exact absurd h hshut
    · rw [hp] at h
      cases h
    · rw [h] at hheld
      cases hheld
    · rw [h, Judgement.auditStep_of_ne_listen (by simp [hstate hb, hopened])]
  rw [hjudge] at hnotRefused ⊢
  rcases hcases with ⟨reason, hrefused⟩ | howner | ⟨hlearn, hlookup, hdue⟩
  · rw [Judgement.budgetStep_of_not_charged (by simp [Judgement.charged, hrefused]),
      State.claimStep_of_ne (by simp [hrefused])] at hnotRefused
    exact absurd hrefused (hnotRefused reason)
  · exact .inl howner
  · right
    refine ⟨hlearn, hlookup, ?_⟩
    obtain ⟨-, -, -, haudited⟩ := s.windowStep_start r (s.gate r.initiator)
    have hgranted := s.windowStep_granted r (s.gate r.initiator) (by simp [hdue])
    obtain ⟨-, -, hverdict, hkey, hbgranted, -, hbaudited⟩ :=
      (s.windowStep r (s.gate r.initiator)).budgetStep_spec r
    rw [hdue] at hverdict
    rw [State.windowStep_key, hfind] at hkey
    rw [hgranted] at hbgranted
    rw [haudited] at hbaudited
    generalize ((s.windowStep r (s.gate r.initiator)).budgetStep r).1 = b at *
    rcases hverdict with hdue | hbudget
    · cases hway : s.freeWay key with
      | some e =>
        rw [State.claimStep_placed hdue hkey hway]
        obtain ⟨-, -, -, hentry, -⟩ := State.outcome_of_claim (s := s) (r := r) (e := e) (key := key) (j := { b with
          verdict := .pass
          claimed := some e
          events := b.events ++
            if (s.window key.window).reportLearning then [.learned r.initiator key.window r.addr e] else [] })
          rfl rfl hkey hbgranted hbaudited k
        exact .inl ⟨e, _, (hentry e).trans (if_pos rfl), rfl, rfl⟩
      | none =>
        rw [State.claimStep_full hdue hkey hway] at hnotRefused
        refine .inr ⟨?_, fun e he => s.freeWay_none hway he⟩
        cases haction : (s.window key.window).fullAction with
        | passUnowned => rfl
        | refuse => exact absurd (by simp [haction]) (hnotRefused .tableFull)
    · rw [State.claimStep_of_ne (by simp [hbudget])] at hnotRefused
      exact absurd hbudget (hnotRefused .budget)

end Sys2Proof.Machine

/-! The ports: a request presented, the sending of the forward queue's head, and the departure of a response. -/

namespace Sys2Proof.Machine

set_option Elab.async false

variable {s t : State} {r : Request} {k : SlotNo} {i : Initiator} {rest : List SlotNo} {a : SlotAccess} {p : Payload}
  {link : Option EntryIndex} {resp : Response} {o : Bool}

/-! ### A request presented -/

/-- R101: an empty lane takes the request presented. -/
theorem exec_presentRequest_of_empty (h : s.lane r.initiator = none) :
    exec (.presentRequest r) s = .next (s.putLane r.initiator (some r)) := by
  change execPresentRequest r s = _
  simp only [execPresentRequest, h]

/-- R101: a full lane keeps its request. -/
theorem exec_presentRequest_of_full {q : Request} (h : s.lane r.initiator = some q) :
    exec (.presentRequest r) s = .next s := by
  change execPresentRequest r s = _
  simp only [execPresentRequest, h]

/-- Settles O17: the lane is replaced where it is empty, and nothing changes where it is not. -/
theorem laneHoldsThePresentedRequest : Obligations.LaneHoldsThePresentedRequest := by
  intro s r
  refine ⟨fun h => ⟨_, exec_presentRequest_of_empty h, State.lane_putLane_self .., fun j hj => ?_, rfl⟩,
    fun q h => exec_presentRequest_of_full h⟩
  exact State.lane_putLane_of_ne s _ _ j hj

/-! ### Sending -/

/-- R119: drain forcing is on, and a slot sent times out at once. -/
def State.forces (s : State) : Prop := s.long.kind = .restart ∧ s.long.drainForcing = true

theorem State.forces_iff : s.forces ↔ (s.restarting && s.long.drainForcing) = true := by
  rw [Bool.and_eq_true, State.restarting_iff, State.forces]

/-- R112: the head of the forward queue is sent, and waits for its answer. -/
theorem exec_send_of_head (hforward : s.forwardQueue = k :: rest) (hslot : s.slot k = .queued a p link)
    (hforces : ¬ s.forces) : exec .send s = .next (s.sendHead k rest a p link) := by
  rw [State.forces_iff, Bool.not_eq_true] at hforces
  change execSend s = _
  simp only [execSend, hforward, hslot, hforces, Bool.false_eq_true, if_false]

/-- R119: while drain forcing is on, the head of the forward queue times out in its sending. -/
theorem exec_send_of_forces (hforward : s.forwardQueue = k :: rest) (hslot : s.slot k = .queued a p link)
    (hforces : s.forces) : exec .send s = .next ((s.sendHead k rest a p link).timeOut k) := by
  rw [State.forces_iff] at hforces
  change execSend s = _
  simp only [execSend, hforward, hslot, hforces, if_true]

/-- Settles O18: the head sent, and the empty queue. -/
theorem sendHandsOnTheHead : Obligations.SendHandsOnTheHead := by
  intro s
  refine ⟨fun k rest a p link hforward hslot hforces => ?head, fun hempty => ?empty⟩
  case head =>
    refine ⟨_, exec_send_of_head hforward hslot hforces, rfl, ?_, fun j hj => ?_, rfl, rfl⟩
    · rw [State.slot_sendHead, if_pos rfl]
      rfl
    · rw [State.slot_sendHead, if_neg hj]
  case empty =>
    change execSend s = _
    simp only [execSend, hempty]

/-! ### Departure -/

/-- R121: the initiators ready to receive are those whose list starts with a READY slot. -/
theorem State.readyToReceive_iff : s.readyToReceive i = true ↔
    ∃ k rest a p r o, s.returnList i = k :: rest ∧ s.slot k = .ready a p r o := by
  unfold State.readyToReceive
  cases hlist : s.returnList i with
  | nil => simp
  | cons k rest =>
    cases hslot : s.slot k with
    | ready a p r o => exact iff_of_true (by simp [hslot]) ⟨k, rest, a, p, r, o, rfl, hslot⟩
    | _ => simp [hslot]

/-- R122: the first initiator ready to receive gets the response at the head of its list. -/
theorem exec_departure_of_next (hnext : s.nextReceiver = some i) (hlist : s.returnList i = k :: rest)
    (hslot : s.slot k = .ready a p resp o) : exec .departure s = .next (s.depart i k rest a resp o) := by
  change execDeparture s = _
  simp only [execDeparture, hnext, hlist, hslot]

/-- R121: with no initiator ready, no response leaves. -/
theorem exec_departure_of_none (hnext : s.nextReceiver = none) : exec .departure s = .next s := by
  change execDeparture s = _
  simp only [execDeparture, hnext]

/-- Settles O22: the initiator by the search from the response pointer, and the departure of its head slot. -/
theorem departureServesFirstReadyInitiator : Obligations.DepartureServesFirstReadyInitiator := by
  intro s ready
  have hready (i : Initiator) : ¬ ready i ↔ s.readyToReceive i = false := by
    rw [← Bool.not_eq_true, State.readyToReceive_iff]
  refine ⟨fun i k rest a p r o hlist hslot hfirst => ?served, fun hnone => ?none⟩
  case served =>
    have hnext : s.nextReceiver = some i := (find_rotation _ _ _).mpr
      ⟨State.readyToReceive_iff.mpr ⟨k, rest, a, p, r, o, hlist, hslot⟩, fun j hj => (hready j).mp (hfirst j hj)⟩
    refine ⟨_, exec_departure_of_next hnext hlist hslot, rfl, ?_, fun j hj => ?_, ?_, fun j hj => ?_, rfl, rfl⟩
    · rw [State.returnList_depart, if_pos rfl]
    · rw [State.returnList_depart, if_neg hj]
    · rw [State.slot_depart, if_pos rfl]
    · rw [State.slot_depart, if_neg hj]
  case none =>
    exact exec_departure_of_none ((find_rotation_none _ _).mpr fun i => (hready i).mp (hnone i))

end Sys2Proof.Machine

/-! The timed happenings: deadlines, RESTART's drain limit and forced timeouts, and the interval timer. -/

namespace Sys2Proof.Machine

set_option Elab.async false

variable {s t : State} {k : SlotNo} {a : SlotAccess} {p : Payload} {link : Option EntryIndex} {d : Option Nat} {n : Nat}

/-! ### The times that can be reached -/

theorem State.canReach_of (h : n ≤ s.now ∨ s.NothingDueBefore n) : s.canReach n = true := (s.canReach_iff n).mpr h

theorem State.not_canReach_of (hlater : s.now < n) (hdue : ¬ s.NothingDueBefore n) : s.canReach n = false := by
  rw [← Bool.not_eq_true, State.canReach_iff]
  rintro (h | h)
  · omega
  · exact hdue h

/-! ### Timeouts -/

/-- R118: what a timeout does to an OUTSTANDING slot, in a state that shares with `s` all that it reads. -/
theorem State.timeOut_spec_of {u : State} (hslot : u.slot k = .outstanding a link d) (hlink : s.linkAgrees k link)
    (hslots : ∀ j, j ≠ k → u.slot j = s.slot j) (htable : u.table = s.table) (hqueue : u.queue = s.queue)
    (hwindows : u.windows = s.windows) :
    (u.timeOut k).slot k = .ready a ⟨[], []⟩ ⟨.error, []⟩ true
    ∧ (∀ j, j ≠ k → (u.timeOut k).slot j = s.slot j)
    ∧ (∀ e, (u.timeOut k).entry e = if link = some e then .free else s.entry e)
    ∧ (u.timeOut k).queue = (s.raiseAll (.responseTimeout a.initiator a.addr k :: s.voidEvents a link)).queue
    ∧ u.timeOut k = { u with slots := (u.timeOut k).slots, table := (u.timeOut k).table,
                             queue := (u.timeOut k).queue } := by
  have hentry (e : EntryIndex) : u.entry e = s.entry e := by rw [State.entry, htable, State.entry]
  have hvoid : u.voidEvents a link = s.voidEvents a link := by simp only [State.voidEvents, hentry]
  obtain ⟨hthis, hothers, hentries, hevents, hrest⟩ :=
    State.timeOut_spec u hslot (fun e he => by rw [hentry]; exact hlink e he)
  refine ⟨hthis, fun j hj => (hothers j hj).trans (hslots j hj), fun e => by rw [hentries, hentry], ?_, hrest⟩
  rw [hevents, hvoid]
  exact State.raiseAll_queue_congr s hqueue hwindows _

/-- R118: a deadline that can be reached is taken at its time. -/
theorem exec_deadlineExpiry_of_reached {m : Nat} (hslot : s.slot k = .outstanding a link (some m))
    (hreach : s.canReach m = true) : exec (.deadlineExpiry k) s = .next ((s.putNow (max s.now m)).timeOut k) := by
  change execDeadlineExpiry k s = _
  simp only [execDeadlineExpiry, hslot, hreach, if_true]

/-- Settles O20: the timeout at the time of the deadline; and the two rows that are not taken. -/
theorem deadlineExpiryTimesTheSlotOut : Obligations.DeadlineExpiryTimesTheSlotOut := by
  intro s k
  refine ⟨fun a link d hslot hlink hreach => ?taken, fun a link d hslot hlater hdue => ?notYet, fun hnone => ?notDue⟩
  case taken =>
    have hexec := exec_deadlineExpiry_of_reached hslot (State.canReach_of hreach)
    obtain ⟨hthis, hothers, hentries, hqueue, hrest⟩ :=
      State.timeOut_spec_of (s := s) (u := s.putNow (max s.now d)) hslot hlink (fun _ _ => rfl) rfl rfl rfl
    have hnow : ((s.putNow (max s.now d)).timeOut k).now = max s.now d := by rw [hrest]; rfl
    refine ⟨_, hexec, hthis, hothers, hentries, hqueue, hnow, ?_⟩
    rw [hnow]
    exact hrest
  case notYet =>
    change execDeadlineExpiry k s = _
    simp [execDeadlineExpiry, hslot, State.not_canReach_of hlater hdue]
  case notDue =>
    change execDeadlineExpiry k s = _
    unfold execDeadlineExpiry
    split
    next a link d hslot => exact absurd hslot (hnone a link d)
    next => rfl

/-! ### The drain limit -/

/-- R192: the drain limit, where it can be reached with the drain not complete. -/
theorem exec_drainLimit_of_reached {stop : Nat} (hrunning : s.long.kind = .restart) (hstop : s.long.stopTime = some stop)
    (hforcing : s.long.drainForcing = false) (hdrain : s.drainComplete = false) (hreach : s.canReach (stop + 10000) = true) :
    exec .drainLimit s = .next { s with
      now := max s.now (stop + 10000), long := { s.long with drainForcing := true } } := by
  change execDrainLimit s = _
  have hreach' : s.canReach (stop + Config.drainLimit) = true := hreach
  simp only [execDrainLimit, hstop, s.restarting_iff.mpr hrunning, hforcing, hdrain, hreach', Bool.not_false, Bool.and_self,
    if_true]
  rfl

/-- R192: a drain limit that is not due is not taken. -/
theorem exec_drainLimit_of_not (h : s.drainComplete = true
      ∨ ∃ stop, s.long.stopTime = some stop ∧ s.canReach (stop + 10000) = false) :
    exec .drainLimit s = .next s := by
  change execDrainLimit s = _
  unfold execDrainLimit
  split
  next stop hstop =>
    rw [if_neg]
    rcases h with h | ⟨stop', hstop', h⟩
    · simp [h]
    · obtain rfl := Option.some.inj (hstop.symm.trans hstop')
      have h' : s.canReach (stop + Config.drainLimit) = false := h
      simp [h']
  next => rfl

/-- R119: a forced timeout. -/
theorem exec_forcedTimeout_of_forces (h : s.forces) : exec (.forcedTimeout k) s = .next (s.timeOut k) :=
  if_pos (State.forces_iff.mp h)

/-- Settles O21: the drain limit where it is reached, and the timeouts that it forces: of an OUTSTANDING slot, and of a
QUEUED one in its sending. -/
theorem drainLimitForcesTimeouts : Obligations.DrainLimitForcesTimeouts := by
  intro s hrunning
  refine ⟨fun stop hstop hforcing hdrain => ⟨fun hreach => ?limit, fun hlater hdue => ?notYet⟩, fun hdrained => ?drained,
    fun hforcing k a link d hslot hlink => ?forced, fun hforcing k rest a p link hforward hslot hlink => ?sent⟩
  case limit =>
    exact exec_drainLimit_of_reached hrunning hstop hforcing (s.drainComplete_eq_false.mpr hdrain)
      (State.canReach_of hreach)
  case notYet => exact exec_drainLimit_of_not (.inr ⟨stop, hstop, State.not_canReach_of hlater hdue⟩)
  case drained => exact exec_drainLimit_of_not (.inl (State.drainComplete_iff.mpr hdrained))
  case forced =>
    exact ⟨_, exec_forcedTimeout_of_forces ⟨hrunning, hforcing⟩, State.timeOut_spec s hslot hlink⟩
  case sent =>
    have hsent : (s.sendHead k rest a p link).slot k = .outstanding a link s.newDeadline := by
      rw [State.slot_sendHead, if_pos rfl]
    obtain ⟨hthis, hothers, hentries, hqueue, hrest⟩ :=
      State.timeOut_spec_of (s := s) hsent hlink (fun j hj => by rw [State.slot_sendHead, if_neg hj]) rfl rfl rfl
    have hforwardRest : ((s.sendHead k rest a p link).timeOut k).forwardQueue = rest := by rw [hrest]; rfl
    have hdown : ((s.sendHead k rest a p link).timeOut k).sentDown
        = s.sentDown ++ [⟨k, a.kind, a.addr, a.length, p.data, p.enables⟩] := by rw [hrest]; rfl
    refine ⟨_, exec_send_of_forces hforward hslot ⟨hrunning, hforcing⟩, hforwardRest, hthis, hothers, hentries, hdown,
      hqueue, ?_⟩
    rw [hforwardRest, hdown]
    exact hrest

/-! ### The interval timer -/

/-- R128: a millisecond boundary that can be reached is counted. -/
theorem exec_timerMillisecondBoundary_of_reached (hreach : s.canReach (s.sweep.boundary + 1000) = true) :
    exec .timerMillisecondBoundary s = .next ((s.putNow (max s.now (s.sweep.boundary + 1000))).putSweep { s.sweep with
      elapsed := min 65535 (s.sweep.elapsed + 1), boundary := s.sweep.boundary + 1000,
      expiryDue := decide (0 < s.sweep.interval) && decide (s.sweep.interval ≤ min 65535 (s.sweep.elapsed + 1))
        && !s.restarting }) :=
  if_pos hreach

/-- R130: an expiry that is due restarts the count and asks for a sweep. -/
theorem exec_intervalTimerExpiry_of_due (hdue : s.sweep.expiryDue = true) (hrunning : s.long.kind ≠ .restart) :
    exec .intervalTimerExpiry s = .next (s.putSweep { s.sweep with elapsed := 0, expiryDue := false }.request) := by
  have : s.restarting = false := by rw [← Bool.not_eq_true, State.restarting_iff]; exact hrunning
  exact if_pos (by rw [hdue, this]; rfl)

/-- R130, R138: the timer does not expire where no expiry is due, nor while RESTART runs. -/
theorem exec_intervalTimerExpiry_of_not (h : s.sweep.expiryDue = false ∨ s.long.kind = .restart) :
    exec .intervalTimerExpiry s = .next s := by
  refine if_neg ?_
  rcases h with h | h
  · simp [h]
  · simp [s.restarting_iff.mpr h]

/-- Settles O23: the boundary that is counted, and the expiry that asks for a sweep; and the rows that are not taken. -/
theorem intervalTimerCountsAndExpires : Obligations.IntervalTimerCountsAndExpires := by
  intro s next
  refine ⟨fun hreach => ?counted, fun hlater hdue => ?notYet, fun hdue hrunning => ?expiry,
    exec_intervalTimerExpiry_of_not⟩
  case counted =>
    refine ⟨_, exec_timerMillisecondBoundary_of_reached (State.canReach_of hreach), rfl, ?_, rfl, rfl⟩
    simp [State.restarting, and_assoc]
  case notYet => exact if_neg (by rw [Bool.not_eq_true]; exact State.not_canReach_of hlater hdue)
  case expiry =>
    rw [exec_intervalTimerExpiry_of_due hdue hrunning]
    cases hsweep : s.sweep.running <;> simp [Sweep.request, Sweep.start, hsweep, State.putSweep]

end Sys2Proof.Machine

/-! The sweep step below the last index, and the clear and resume steps of RESTART. -/

namespace Sys2Proof.Machine

set_option Elab.async false

variable {s t : State} {e : EntryIndex}

/-! ### The sweep step -/

/-- R132: a sweep step leaves its mark on the entry at the cursor alone. -/
theorem State.entry_sweepEntry (s : State) (e j : EntryIndex) :
    (s.sweepEntry e).entry j = if j = e then (s.entry e).swept (s.limitFor (s.entry e)) else s.entry j := by
  rw [State.sweepEntry_spec]
  exact Vec.get_set s.table e j _

@[simp] theorem State.advanceSweep_table (s : State) : s.advanceSweep.table = s.table := by
  rw [State.advanceSweep_spec]
  split <;> rfl

/-- Settles O24: the entry by `sweepEntry_spec`, and below index 1023 the cursor that moves on. -/
theorem sweepStepAgesTheEntry : Obligations.SweepStepAgesTheEntry := by
  intro s e hrunning hcursor
  have hexec := exec_sweepStep_of_running hrunning hcursor
  have hentry (j : EntryIndex) : (s.sweepEntry e).advanceSweep.entry j
      = if j = e then (s.entry e).swept (s.limitFor (s.entry e)) else s.entry j := by
    rw [State.entry, State.advanceSweep_table]
    exact s.entry_sweepEntry e j
  have hthis := (hentry e).trans (if_pos rfl)
  refine ⟨_, hexec, fun j hj => (hentry j).trans (if_neg hj), fun hother => ?others, fun key c hclaimed => ?claimed, ?slots,
    fun hlt => ?movesOn⟩
  case others =>
    rw [hthis]
    cases hx : s.entry e with
    | claimed key c => exact absurd hx (hother key c)
    | _ => rfl
  case claimed =>
    rw [hthis, hclaimed]
    cases hslot : c.claimSlot <;> simp [Entry.swept, State.limitFor, hslot]
  case slots => rw [execSweepStep_frame hexec]
  case movesOn =>
    have hlast : ¬ s.sweep.cursor + 1 = 1024 := by omega
    have hadvance : (s.sweepEntry e).advanceSweep
        = (s.sweepEntry e).putSweep { (s.sweepEntry e).sweep with cursor := e.val + 1 } := by
      have hcursor' : (s.sweepEntry e).sweep.cursor = s.sweep.cursor := by rw [State.sweepEntry_spec]
      rw [State.advanceSweep_spec, hcursor', if_neg hlast, hcursor]
      rfl
    rw [hadvance, State.sweepEntry_spec]
    exact ⟨rfl, rfl, rfl⟩

/-! ### RESTART's last steps -/

/-- R193: the clear step of a drained RESTART. -/
theorem exec_clearStep_of_drained (hrunning : s.long.kind = .restart) (hcleared : s.long.cleared = false)
    (hdrained : s.drainComplete = true) : exec .clearStep s = .next s.clear :=
  if_pos (by rw [s.restarting_iff.mpr hrunning, hcleared, hdrained]; rfl)

/-- R194: the resume step after the clear step. -/
theorem exec_resumeStep_of_cleared (hrunning : s.long.kind = .restart) (hcleared : s.long.cleared = true) :
    exec .resumeStep s = .next s.resume :=
  if_pos (by rw [s.restarting_iff.mpr hrunning, hcleared]; rfl)

/-- R194: before the clear step there is no resume step. -/
theorem exec_resumeStep_of_not_cleared (hcleared : s.long.cleared = false) : exec .resumeStep s = .next s :=
  if_neg (by rw [hcleared]; simp)

/-- Settles O28: the clear step block by block, and the resume step. -/
theorem restartClearsAndResumes : Obligations.RestartClearsAndResumes := by
  intro s hrunning
  refine ⟨fun hcleared hdrained => ?clear, fun hcleared => ?resume, exec_resumeStep_of_not_cleared⟩
  case clear =>
    exact ⟨_, exec_clearStep_of_drained hrunning hcleared (State.drainComplete_iff.mpr hdrained), fun e => s.entry_clear e,
      fun k => s.slot_clear k, fun i => s.returnList_clear i, rfl, rfl, rfl,
      fun i => by simp [State.clear, State.gate], rfl, rfl⟩
  case resume =>
    rw [exec_resumeStep_of_cleared hrunning hcleared, State.resume,
      State.raise_eq_of s (t := (s.putSweep (s.sweep.restartTimer s.now)).putLong .cold) rfl rfl]
    rfl

end Sys2Proof.Machine

/-! The Command Unit, the Aging Sweep and the time base: how the long-operation record and the sweep move, and that no timed
happening is passed. -/

namespace Sys2Proof.Machine

set_option Elab.async false

variable {s t : State} {l : LongOp} {w : Sweep} {n : Nat}

/-! ### The moves of the record and the sweep -/

/-- R189: what the end of a sweep with this released count leaves of the long-operation record. -/
def LongOp.afterSweep (l : LongOp) (released : Nat) : LongOp :=
  if l.kind = .sweep ∧ l.awaited = some .current then { l with kind := .none, affected := released }
  else if l.kind = .sweep ∧ l.awaited = some .next then { l with awaited := some .current }
  else l

/-- R128 to R138, R176 to R194: the moves of the long-operation record and the Aging Sweep in a happening of state `s`, but
for RESTART's clear step and for those in which the time moves on. -/
inductive State.UnitMoves (s : State) : LongOp → Sweep → Prop
  | stay : UnitMoves s s.long s.sweep
  | reset : UnitMoves s .cold (.cold s.now)
  | configure (interval : Nat) (due : Bool) (hdue : due = true → s.sweep.expiryDue = true) :
      UnitMoves s s.long { s.sweep with interval := interval, expiryDue := due }
  | expire (hkind : s.long.kind ≠ .restart) : UnitMoves s s.long (Sweep.request { s.sweep with elapsed := 0, expiryDue := false })
  | age (released : Nat) (hrunning : s.sweep.running = true) (hcursor : s.sweep.cursor + 1 < 1024)
      (hreleased : released ≤ s.sweep.released + 1) :
      UnitMoves s s.long { s.sweep with cursor := s.sweep.cursor + 1, released := released }
  | finish (released : Nat) (hrunning : s.sweep.running = true) (hreleased : released ≤ s.sweep.released + 1) :
      UnitMoves s (s.long.afterSweep released) (Sweep.finish { s.sweep with released := released })
  | walk (affected skipped : Nat) (hkind : s.long.kind = .purge ∨ s.long.kind = .reown) (hcursor : s.long.cursor < 1024)
      (hcounts : affected + skipped ≤ s.long.affected + s.long.skipped + 1) :
      UnitMoves s { s.long with
        cursor := s.long.cursor + 1, affected := affected, skipped := skipped
        kind := if s.long.cursor + 1 = 1024 then .none else s.long.kind } s.sweep
  | abort (hkind : s.long.kind = .purge ∨ s.long.kind = .reown) :
      UnitMoves s { s.long with abortRequested := true } s.sweep
  | aborted (hkind : s.long.kind = .purge ∨ s.long.kind = .reown) : UnitMoves s s.long.ended s.sweep
  | purge (window : Option WindowNo) (owner : Option Initiator) (kinds : KindSet) (hkind : s.long.kind = .none) :
      UnitMoves s { LongOp.cold with kind := .purge, windowFilter := window, ownerFilter := owner, kindSet := some kinds }
        s.sweep
  | reown (window : Option WindowNo) (source target : Initiator) (hne : source ≠ target) (hkind : s.long.kind = .none) :
      UnitMoves s { LongOp.cold with kind := .reown, windowFilter := window, source := some source, target := some target }
        s.sweep
  | sweepNow (hkind : s.long.kind = .none) :
      UnitMoves s { LongOp.cold with kind := .sweep, awaited := some s.sweep.awaitedNow } s.sweep.request
  | restart (hkind : s.long.kind = .none) :
      UnitMoves s { LongOp.cold with kind := .restart, stopTime := some s.now } s.sweep.stop
  | resume (hkind : s.long.kind = .restart) : UnitMoves s .cold (s.sweep.restartTimer s.now)

/-- What a management command's body does to the record and the sweep, the command does. -/
theorem runCommand_unitMoves {c : Command} {i : Instr} {body : State → Answer}
    (hbody : s.UnitMoves (body s).state.long (body s).state.sweep) (h : runCommand c i body s = .next t) :
    s.UnitMoves t.long t.sweep := by
  rcases runCommand_part (fun u => (u.long, u.sweep)) (fun _ _ _ => rfl) h with h | h <;>
    obtain ⟨hlong, hsweep⟩ := Prod.mk.inj h <;> rw [hlong, hsweep]
  · exact .stay
  · exact hbody

/-- R172: a long command is accepted while none runs, and changes nothing otherwise. -/
theorem acceptLong_unitMoves {effect : State → State}
    (h : s.long.kind = .none → s.UnitMoves (effect s).long (effect s).sweep) :
    s.UnitMoves (acceptLong s effect).state.long (acceptLong s effect).state.sweep := by
  unfold acceptLong
  split
  next hkind => exact h hkind
  next => exact .stay

theorem abortBody_unitMoves (s : State) : s.UnitMoves (abortBody s).state.long (abortBody s).state.sweep := by
  unfold abortBody
  split
  next => exact .stay
  next => exact .stay
  next hkind => exact .abort (.inl hkind)
  next hkind => exact .abort (.inr hkind)
  next => exact .stay

theorem purgeBody_unitMoves (wf of ks : Byte) (s : State) :
    s.UnitMoves (purgeBody wf of ks s).state.long (purgeBody wf of ks s).state.sweep := by
  unfold purgeBody
  split
  next => exact acceptLong_unitMoves fun hkind => .purge _ _ _ hkind
  next => exact .stay

theorem reownBody_unitMoves (source target wf : Byte) (s : State) :
    s.UnitMoves (reownBody source target wf s).state.long (reownBody source target wf s).state.sweep := by
  unfold reownBody
  split
  next =>
    split
    next => exact .stay
    next hne => exact acceptLong_unitMoves fun hkind => .reown _ _ _ hne hkind
  next => exact .stay

/-- R132, R134: the sweep step moves the sweep on, or ends it. -/
theorem execSweepStep_unitMoves (h : execSweepStep s = .next t) : s.UnitMoves t.long t.sweep := by
  unfold execSweepStep at h
  split at h <;> cases h
  next hrun =>
    obtain ⟨hrunning, hcursor⟩ := hrun
    have hreleased (b : Bool) : s.sweep.released + (if b then 1 else 0) ≤ s.sweep.released + 1 := by
      cases b <;> simp
    rw [State.advanceSweep_spec, State.sweepEntry_spec]
    by_cases hlast : s.sweep.cursor + 1 = 1024
    · simp only [hlast, if_true]
      exact .finish _ hrunning (hreleased _)
    · simp only [hlast, if_false]
      exact .age _ hrunning (by omega) (hreleased _)
  next => exact .stay

/-- R178: a walk that counts at most one entry more and moves on. -/
theorem State.advanceWalk_unitMoves {u : State} (c : DoneCommand) {affected skipped : Nat}
    (hlong : u.long = { s.long with affected := affected, skipped := skipped }) (hsweep : u.sweep = s.sweep)
    (hkind : s.long.kind = .purge ∨ s.long.kind = .reown) (hcursor : s.long.cursor < 1024)
    (hcounts : affected + skipped ≤ s.long.affected + s.long.skipped + 1) :
    s.UnitMoves (u.advanceWalk c).long (u.advanceWalk c).sweep := by
  rw [State.advanceWalk_spec, hlong, hsweep]
  exact .walk affected skipped hkind hcursor hcounts

theorem execPurgeStep_unitMoves (h : execPurgeStep s = .next t) : s.UnitMoves t.long t.sweep := by
  unfold execPurgeStep at h
  split at h <;> cases h
  next hrun =>
    obtain ⟨⟨hkind, -⟩, hcursor⟩ := hrun
    unfold State.purgeEntry
    split
    · refine State.advanceWalk_unitMoves .purge (affected := s.long.affected + 1) (skipped := s.long.skipped) ?_ ?_
        (.inl hkind) hcursor (by omega) <;> simp [State.countAffected]
    · exact State.advanceWalk_unitMoves .purge (affected := s.long.affected) (skipped := s.long.skipped) rfl rfl
        (.inl hkind) hcursor (by omega)
  next => exact .stay

theorem execReownStep_unitMoves (h : execReownStep s = .next t) : s.UnitMoves t.long t.sweep := by
  unfold execReownStep at h
  split at h <;> cases h
  next hrun =>
    obtain ⟨⟨hkind, -⟩, hcursor⟩ := hrun
    unfold State.reownEntry
    split
    · simp only []
      split
      · split
        · exact State.advanceWalk_unitMoves .reown (affected := s.long.affected) (skipped := s.long.skipped + 1) rfl rfl
            (.inr hkind) hcursor (by omega)
        · exact State.advanceWalk_unitMoves .reown (affected := s.long.affected + 1) (skipped := s.long.skipped) rfl rfl
            (.inr hkind) hcursor (by omega)
      · exact State.advanceWalk_unitMoves .reown (affected := s.long.affected) (skipped := s.long.skipped) rfl rfl
          (.inr hkind) hcursor (by omega)
    · exact State.advanceWalk_unitMoves .reown (affected := s.long.affected) (skipped := s.long.skipped) rfl rfl
          (.inr hkind) hcursor (by omega)
  next => exact .stay

theorem execWalkEndAborted_unitMoves (h : execWalkEndAborted s = .next t) : s.UnitMoves t.long t.sweep := by
  unfold execWalkEndAborted at h
  split at h
  next =>
    split at h <;> cases h
    next hkind => simpa [State.endLong] using State.UnitMoves.aborted (.inl hkind)
    next hkind => simpa [State.endLong] using State.UnitMoves.aborted (.inr hkind)
    next => exact .stay
  next =>
    cases h
    exact .stay

/-- Every command but the clear step and the two that move the time on for the record and the timer moves them in one of
these ways. -/
theorem exec_unitMoves {c : Instr} (hlimit : c ≠ .drainLimit) (hboundary : c ≠ .timerMillisecondBoundary)
    (hclear : c ≠ .clearStep) (h : exec c s = .next t) : s.UnitMoves t.long t.sweep := by
  by_cases hf : Field.long ∈ touched c ∨ Field.sweep ∈ touched c
  · cases c <;> simp [touched] at hf hlimit hboundary hclear
    case coldReset =>
      cases h
      exact .reset
    case intervalTimerExpiry =>
      rw [exec, execIntervalTimerExpiry] at h
      split at h <;> cases h
      next hdue =>
        refine .expire fun hkind => ?_
        simp [s.restarting_iff.mpr hkind] at hdue
      next => exact .stay
    case sweepStep => exact execSweepStep_unitMoves h
    case purgeStep => exact execPurgeStep_unitMoves h
    case reownStep => exact execReownStep_unitMoves h
    case walkEndAborted => exact execWalkEndAborted_unitMoves h
    case resumeStep =>
      rw [exec, execResumeStep] at h
      split at h <;> cases h
      next hcleared =>
        simp only [Bool.and_eq_true] at hcleared
        simpa [State.resume] using State.UnitMoves.resume (s.restarting_iff.mp hcleared.1)
      next => exact .stay
    case setTimers =>
      exact runCommand_unitMoves (.configure _ _ fun hdue => (Bool.and_eq_true_iff.mp hdue).1) h
    case abort => exact runCommand_unitMoves (abortBody_unitMoves s) h
    case purge => exact runCommand_unitMoves (purgeBody_unitMoves _ _ _ s) h
    case reown => exact runCommand_unitMoves (reownBody_unitMoves _ _ _ s) h
    case sweepNow => exact runCommand_unitMoves (acceptLong_unitMoves .sweepNow) h
    case restart => exact runCommand_unitMoves (acceptLong_unitMoves .restart) h
  · obtain ⟨hl, hw⟩ := not_or.mp hf
    have hlong : t.long = s.long := exec_same h hl
    have hsweep : t.sweep = s.sweep := exec_same h hw
    rw [hlong, hsweep]
    exact .stay

/-! ### The sweep's laws -/

theorem Sweep.Lawful.request (h : w.Lawful) : w.request.Lawful := by
  unfold Sweep.request
  split
  next hrunning => exact ⟨h.cursor, h.cursorMax, fun _ => hrunning, h.released, h.elapsed⟩
  next => exact ⟨by simp [Sweep.start], by simp [Sweep.start], fun _ => rfl, Nat.le_refl 0, h.elapsed⟩

/-- R134: a sweep that ends has released at most one entry at each of its 1,024 steps. -/
theorem Sweep.Lawful.finish (h : w.Lawful) (hreleased : n ≤ 1024) : (Sweep.finish { w with released := n }).Lawful := by
  unfold Sweep.finish
  split
  · exact ⟨by simp [Sweep.start], by simp [Sweep.start], nofun, Nat.le_refl 0, h.elapsed⟩
  next hpending => exact ⟨by simp, Nat.le_refl _, fun hp => absurd hp hpending, hreleased, h.elapsed⟩

/-- R138: the sweep that RESTART stops. -/
theorem Sweep.Lawful.stop (h : w.Lawful) : w.stop.Lawful :=
  ⟨by simp [Sweep.stop], Nat.le_refl _, nofun, h.released.trans h.cursorMax, h.elapsed⟩

theorem Sweep.Lawful.cold (n : Nat) : (Sweep.cold n).Lawful :=
  ⟨by simp [Sweep.cold], Nat.le_refl _, nofun, Nat.zero_le _, Nat.zero_le _⟩

/-- Every such move keeps the sweep's laws. -/
theorem State.UnitMoves.keeps_sweep (hm : s.UnitMoves l w) (h : s.sweep.Lawful) : w.Lawful := by
  have hreleased := h.released
  cases hm
  case reset => exact .cold _
  case configure => exact ⟨h.cursor, h.cursorMax, h.pending, h.released, h.elapsed⟩
  case expire => exact Sweep.Lawful.request ⟨h.cursor, h.cursorMax, h.pending, h.released, Nat.zero_le _⟩
  case age hrunning hcursor hn =>
    exact ⟨iff_of_true hrunning hcursor, Nat.le_of_lt hcursor, fun _ => hrunning, by simp only; omega, h.elapsed⟩
  case finish hrunning hn =>
    have hcursor := h.cursor.mp hrunning
    exact h.finish (by omega)
  case sweepNow => exact h.request
  case restart => exact h.stop
  case resume => exact ⟨h.cursor, h.cursorMax, h.pending, h.released, Nat.zero_le _⟩
  all_goals exact h

/-! ### The long-operation record's laws -/

/-- A record of no long command, which is neither draining nor cleared, is lawful. -/
theorem State.longLawful_of_none {u : State} (hkind : u.long.kind = .none) (hforcing : u.long.drainForcing = false)
    (hcleared : u.long.cleared = false) : u.LongLawful := by
  constructor <;> simp [hkind, hforcing, hcleared]

/-- While a PURGE, a REOWN or a SWEEP_NOW runs, RESTART's two marks are clear. -/
theorem State.LongLawful.marks (h : s.LongLawful) (hkind : s.long.kind ≠ .restart) :
    s.long.drainForcing = false ∧ s.long.cleared = false := by
  constructor
  · exact Bool.eq_false_iff.mpr fun hforcing => hkind (h.forcing hforcing)
  · exact Bool.eq_false_iff.mpr fun hcleared => hkind (h.cleared hcleared).1

section

variable {u : State}

/-- The record's laws, where it stays and the sweep still is as its kind asks. -/
theorem State.LongLawful.of_long (h : s.LongLawful) (hl : u.long = s.long)
    (hsweep : s.long.kind = .sweep → u.sweep.running = true
      ∧ (s.long.awaited = some .current ∨ (s.long.awaited = some .next ∧ u.sweep.pending = true)))
    (hrestart : s.long.kind = .restart → u.sweep.running = false ∧ u.sweep.expiryDue = false)
    (hcleared : u.long.cleared = true → ∀ k, u.slot k = .free) : u.LongLawful where
  walkCursor := hl ▸ h.walkCursor
  counts := hl ▸ h.counts
  purge := hl ▸ h.purge
  reown := hl ▸ h.reown
  sweep := hl ▸ hsweep
  restart hkind := by
    rw [hl] at hkind ⊢
    exact ⟨(h.restart hkind).1, hrestart hkind⟩
  forcing := hl ▸ h.forcing
  cleared hc := by
    have hs := h.cleared (hl ▸ hc)
    exact ⟨hl ▸ hs.1, hcleared hc⟩

/-- R178: a walk that has counted at most one entry for each step moves on, or ends. -/
theorem State.LongLawful.walk (h : s.LongLawful) {affected skipped : Nat}
    (hkind : s.long.kind = .purge ∨ s.long.kind = .reown) (hcursor : s.long.cursor < 1024)
    (hcounts : affected + skipped ≤ s.long.affected + s.long.skipped + 1)
    (hl : u.long = { s.long with
      cursor := s.long.cursor + 1, affected := affected, skipped := skipped
      kind := if s.long.cursor + 1 = 1024 then .none else s.long.kind }) : u.LongLawful := by
  have hne : s.long.kind ≠ .restart := by rcases hkind with hk | hk <;> simp [hk]
  have hneSweep : s.long.kind ≠ .sweep := by rcases hkind with hk | hk <;> simp [hk]
  obtain ⟨hforcing, hcleared⟩ := h.marks hne
  have hsteps := h.counts hkind
  by_cases hlast : s.long.cursor + 1 = 1024
  · exact State.longLawful_of_none (by rw [hl]; exact if_pos hlast) (by rw [hl]; exact hforcing) (by rw [hl]; exact hcleared)
  · rw [if_neg hlast] at hl
    constructor <;> rw [hl]
    case walkCursor => exact fun _ => by simp only; omega
    case counts => exact fun _ => by simp only; omega
    case purge => exact h.purge
    case reown => exact h.reown
    case sweep => exact fun hk => absurd hk hneSweep
    case restart => exact fun hk => absurd hk hne
    case forcing => exact h.forcing
    case cleared => exact fun hc => absurd (hcleared.symm.trans hc) nofun

/-- R189: the record after the end of a sweep. -/
theorem State.LongLawful.afterSweep (h : s.LongLawful) (hrunning : s.sweep.running = true)
    (hl : u.long = s.long.afterSweep n) (hw : u.sweep = Sweep.finish { s.sweep with released := n })
    (hcleared : u.long.cleared = true → ∀ k, u.slot k = .free) : u.LongLawful := by
  have hne : s.long.kind ≠ .restart := fun hkind => by
    have := (h.restart hkind).2.1
    rw [hrunning] at this
    cases this
  obtain ⟨hforcing, hmark⟩ := h.marks hne
  unfold LongOp.afterSweep at hl
  split at hl
  next => exact State.longLawful_of_none (by rw [hl]) (by rw [hl]; exact hforcing) (by rw [hl]; exact hmark)
  next hcurrent =>
    split at hl
    next hnext =>
      obtain ⟨hkind, hawaited⟩ := hnext
      have hpending : s.sweep.pending = true := by
        rcases (h.sweep hkind).2 with hc | ⟨-, hp⟩
        · rw [hawaited] at hc
          cases hc
        · exact hp
      have hstarted : u.sweep.running = true := by rw [hw, Sweep.finish, if_pos (by exact hpending)]; rfl
      constructor <;> simp [hl, hkind, hstarted, hforcing, hmark]
    next hnext =>
      refine h.of_long hl (fun hkind => ?_) (fun hkind => absurd hkind hne) hcleared
      rcases (h.sweep hkind).2 with hc | ⟨hn, -⟩
      · exact absurd ⟨hkind, hc⟩ hcurrent
      · exact absurd ⟨hkind, hn⟩ hnext

/-- Every such move keeps the record's laws. -/
theorem State.UnitMoves.keeps_long (hm : s.UnitMoves l w) (h : s.LongLawful) (hl : u.long = l)
    (hw : u.sweep = w) (hcleared : u.long.cleared = true → ∀ k, u.slot k = .free) : u.LongLawful := by
  have hrunningKind (hrunning : s.sweep.running = true) : s.long.kind ≠ .restart := fun hkind => by
    have := (h.restart hkind).2.1
    rw [hrunning] at this
    cases this
  cases hm
  case stay => exact h.of_long hl (hw ▸ h.sweep) (fun hk => hw ▸ (h.restart hk).2) hcleared
  case reset => exact State.longLawful_of_none (by rw [hl]; rfl) (by rw [hl]; rfl) (by rw [hl]; rfl)
  case resume => exact State.longLawful_of_none (by rw [hl]; rfl) (by rw [hl]; rfl) (by rw [hl]; rfl)
  case configure interval due hdue =>
    refine h.of_long hl (hw ▸ h.sweep) (fun hk => ?_) hcleared
    obtain ⟨-, hrunning, hexpiry⟩ := h.restart hk
    rw [hw]
    exact ⟨hrunning, Bool.eq_false_iff.mpr fun hd => by rw [hdue hd] at hexpiry; cases hexpiry⟩
  case expire hkind =>
    refine h.of_long hl (fun hk => ?_) (fun hk => absurd hk hkind) hcleared
    obtain ⟨hrunning, hawaited⟩ := h.sweep hk
    rw [hw, Sweep.request, if_pos (by exact hrunning)]
    exact ⟨hrunning, hawaited.imp_right fun hn => ⟨hn.1, rfl⟩⟩
  case age hrunning _ _ =>
    exact h.of_long hl (fun hk => hw ▸ h.sweep hk) (fun hk => absurd hk (hrunningKind hrunning)) hcleared
  case finish hrunning _ => exact h.afterSweep hrunning hl hw hcleared
  case walk hkind hcursor hcounts => exact h.walk hkind hcursor hcounts hl
  case abort hkind =>
    have hne : s.long.kind ≠ .restart := by rcases hkind with hk | hk <;> simp [hk]
    have hneSweep : s.long.kind ≠ .sweep := by rcases hkind with hk | hk <;> simp [hk]
    constructor <;> rw [hl]
    case walkCursor => exact h.walkCursor
    case counts => exact h.counts
    case purge => exact h.purge
    case reown => exact h.reown
    case sweep => exact fun hk => absurd hk hneSweep
    case restart => exact fun hk => absurd hk hne
    case forcing => exact h.forcing
    case cleared => exact fun hc => absurd (h.cleared hc).1 hne
  case aborted hkind =>
    have hne : s.long.kind ≠ .restart := by rcases hkind with hk | hk <;> simp [hk]
    obtain ⟨hforcing, hmark⟩ := h.marks hne
    exact State.longLawful_of_none (by rw [hl]; rfl) (by rw [hl]; exact hforcing) (by rw [hl]; exact hmark)
  case purge => constructor <;> simp [hl, LongOp.cold]
  case reown hne _ => constructor <;> simp [hl, LongOp.cold, hne]
  case sweepNow =>
    constructor <;> simp [hl, hw, LongOp.cold]
    unfold Sweep.request Sweep.awaitedNow
    cases hrunning : s.sweep.running <;> simp [Sweep.start]
  case restart => constructor <;> simp [hl, hw, LongOp.cold, Sweep.stop]

end

/-! ### The slots while RESTART runs -/

/-- R191: a slot on which the drain waits. -/
def Slot.active (x : Slot) : Prop := x ≠ .free ∧ ∀ a, x ≠ .orphaned a

theorem Slot.active_unlink {x : Slot} : x.unlink.active ↔ x.active := by
  cases x <;> simp [Slot.active, Slot.unlink]

/-- R173: while RESTART runs, a slot that is FREE stays so. -/
theorem Slot.Moves.free_of_restarting {x y : Slot} (hm : x.Moves s y) (hrestart : s.restarting = true) (hx : x = .free) :
    y = .free := by
  subst hx
  cases hm
  case stay => rfl
  case unlink => rfl
  case queue h => rw [hrestart] at h; cases h
  case answer h => rw [hrestart] at h; cases h

/-- R173: while RESTART runs, no slot comes to be waited on. -/
theorem Slot.Moves.active_of_restarting {x y : Slot} (hm : x.Moves s y) (hrestart : s.restarting = true)
    (hy : y.active) : x.active := by
  cases hm
  case stay => exact hy
  case unlink => exact Slot.active_unlink.mp hy
  case queue h => rw [hrestart] at h; cases h
  case answer h => rw [hrestart] at h; cases h
  case free => exact absurd rfl hy.1
  all_goals exact ⟨nofun, nofun⟩

/-- R112, R119: a slot that is OUTSTANDING was so before with the same deadline, or has been sent, with a new one. -/
theorem Slot.Moves.outstanding {x : Slot} {a : SlotAccess} {link : Option EntryIndex} {d : Option Nat}
    (hm : x.Moves s (.outstanding a link d)) :
    (∃ link', x = .outstanding a link' d) ∨ ((s.restarting && s.long.drainForcing) = false ∧ d = s.newDeadline) := by
  generalize hy : Slot.outstanding a link d = y at hm
  cases hm
  case stay => exact .inl ⟨link, hy.symm⟩
  case unlink => exact .inl (Slot.unlink_eq_outstanding hy.symm)
  case send h =>
    obtain ⟨-, -, hd⟩ := Slot.outstanding.inj hy
    exact .inr ⟨h, hd⟩
  case depart o => cases o <;> cases hy
  all_goals cases hy

/-! ### No timed happening is passed -/

/-- What such a move of the record and the sweep means to the time base: where no timed happening was overdue, the timer's
are not, and RESTART's drain has the limit it had, or starts now. -/
theorem State.UnitMoves.schedule (hm : s.UnitMoves l w) (hs : s.TimesLawful) :
    s.now ≤ w.boundary + 1000 ∧ (w.expiryDue = true → l.kind ≠ .restart → s.now ≤ w.boundary)
    ∧ (l.kind = .restart → (s.long.kind = .restart ∧ l.drainForcing = s.long.drainForcing ∧ l.stopTime = s.long.stopTime)
      ∨ (l.drainForcing = false ∧ l.stopTime = some s.now)) := by
  have hboundary := hs.boundary
  have hrequest (v : Sweep) : v.request.boundary = v.boundary ∧ v.request.expiryDue = v.expiryDue := by
    unfold Sweep.request
    split <;> exact ⟨rfl, rfl⟩
  cases hm
  case stay => exact ⟨hboundary, hs.expiry, fun hk => .inl ⟨hk, rfl, rfl⟩⟩
  case reset => exact ⟨Nat.le_add_right _ _, nofun, nofun⟩
  case configure hdue => exact ⟨hboundary, fun hd => hs.expiry (hdue hd), fun hk => .inl ⟨hk, rfl, rfl⟩⟩
  case expire hkind =>
    rw [(hrequest _).1, (hrequest _).2]
    exact ⟨hboundary, nofun, fun hk => absurd hk hkind⟩
  case age => exact ⟨hboundary, hs.expiry, fun hk => .inl ⟨hk, rfl, rfl⟩⟩
  case finish released _ _ =>
    have hfinish (v : Sweep) : v.finish.boundary = v.boundary ∧ v.finish.expiryDue = v.expiryDue := by
      unfold Sweep.finish
      split <;> exact ⟨rfl, rfl⟩
    have hlong : (s.long.afterSweep released).kind = .restart ↔ s.long.kind = .restart := by
      unfold LongOp.afterSweep
      split
      next h => simp [h.1]
      next => split <;> rfl
    have hsame : (s.long.afterSweep released).drainForcing = s.long.drainForcing
        ∧ (s.long.afterSweep released).stopTime = s.long.stopTime := by
      unfold LongOp.afterSweep
      (repeat' split) <;> exact ⟨rfl, rfl⟩
    rw [(hfinish _).1, (hfinish _).2, ne_eq, hlong]
    exact ⟨hboundary, hs.expiry, fun hk => .inl ⟨hk, hsame⟩⟩
  case walk hkind _ _ =>
    have hne : s.long.kind ≠ .restart := by rcases hkind with hk | hk <;> simp [hk]
    refine ⟨hboundary, fun hd _ => hs.expiry hd hne, fun hk => ?_⟩
    simp only at hk
    split at hk
    · cases hk
    · exact absurd hk hne
  case abort => exact ⟨hboundary, hs.expiry, fun hk => .inl ⟨hk, rfl, rfl⟩⟩
  case aborted hkind =>
    have hne : s.long.kind ≠ .restart := by rcases hkind with hk | hk <;> simp [hk]
    exact ⟨hboundary, fun hd _ => hs.expiry hd hne, nofun⟩
  case purge hkind => exact ⟨hboundary, fun hd _ => hs.expiry hd (by simp [hkind]), nofun⟩
  case reown hkind => exact ⟨hboundary, fun hd _ => hs.expiry hd (by simp [hkind]), nofun⟩
  case sweepNow hkind =>
    rw [(hrequest _).1, (hrequest _).2]
    exact ⟨hboundary, fun hd _ => hs.expiry hd (by simp [hkind]), nofun⟩
  case restart => exact ⟨hboundary, nofun, fun _ => .inr ⟨rfl, rfl⟩⟩
  case resume => exact ⟨Nat.le_add_right _ _, nofun, nofun⟩

/-- R118, R119, R192: moves of the slots and of the record and the sweep that take no time pass no timed happening. -/
theorem State.TimesLawful.of_moves (hs : s.TimesLawful) (hunit : s.UnitMoves t.long t.sweep) (hnow : t.now = s.now)
    (hslots : ∀ k, (s.slot k).Moves s (t.slot k)) : t.TimesLawful := by
  obtain ⟨hboundary, hexpiry, hdrain⟩ := hunit.schedule hs
  rw [← hnow] at hboundary hexpiry
  refine ⟨fun k a link d hk => ?deadlines, hboundary, hexpiry, fun hkind hforcing hactive stop hstop => ?limit,
    fun hkind hforcing hout stop hstop => ?forced⟩ <;> rw [hnow]
  case deadlines =>
    have hm := hslots k
    rw [hk] at hm
    rcases hm.outstanding with ⟨link', hx⟩ | ⟨-, hd⟩
    · exact hs.deadlines k a link' d hx
    · unfold State.newDeadline at hd
      split at hd
      · cases hd
      · obtain rfl := Option.some.inj hd
        exact Nat.le_add_right _ _
  case limit =>
    rcases hdrain hkind with ⟨hrestart, hsameForcing, hsameStop⟩ | ⟨-, hstarts⟩
    · obtain ⟨k, hk⟩ := hactive
      exact hs.limit hrestart (hsameForcing ▸ hforcing)
        ⟨k, (hslots k).active_of_restarting (s.restarting_iff.mpr hrestart) hk⟩ stop (hsameStop ▸ hstop)
    · obtain rfl := Option.some.inj (hstarts.symm.trans hstop)
      exact Nat.le_add_right _ _
  case forced =>
    rcases hdrain hkind with ⟨hrestart, hsameForcing, hsameStop⟩ | ⟨hnot, -⟩
    · obtain ⟨k, a, link, d, hk⟩ := hout
      have hm := hslots k
      rw [hk] at hm
      rw [hsameForcing] at hforcing
      rcases hm.outstanding with ⟨link', hx⟩ | ⟨hnot, -⟩
      · exact hs.forced hrestart hforcing ⟨k, a, link', d, hx⟩ stop (hsameStop ▸ hstop)
      · rw [s.restarting_iff.mpr hrestart, hforcing] at hnot
        cases hnot
    · rw [hnot] at hforcing
      cases hforcing

/-- The time base passes nothing where it moves on to a time that it can reach. -/
theorem State.TimesLawful.reach (hs : s.TimesLawful) (hreach : s.canReach n = true) :
    s.NothingDueBefore (max s.now n) := by
  rcases (s.canReach_iff n).mp hreach with h | h
  · rwa [Nat.max_eq_left h]
  · rcases Nat.le_total s.now n with hn | hn
    · rwa [Nat.max_eq_right hn]
    · rwa [Nat.max_eq_left hn]

/-- What falls due when does not depend on the present time. -/
theorem State.nothingDueBefore_putNow {m : Nat} (h : s.NothingDueBefore n) : (s.putNow m).NothingDueBefore n :=
  ⟨h.deadlines, h.boundary, h.expiry, h.limit, h.forced⟩

/-- R118: a deadline is taken at its time. -/
theorem execDeadlineExpiry_keeps_times {k : SlotNo} (hs : s.TimesLawful) (h : execDeadlineExpiry k s = .next t) :
    t.TimesLawful := by
  unfold execDeadlineExpiry at h
  split at h
  next a link d hslot =>
    split at h <;> cases h
    next hreach =>
      have hu : (s.putNow (max s.now d)).TimesLawful := State.nothingDueBefore_putNow (hs.reach hreach)
      refine hu.of_moves ?_ ?_ fun j => State.timeOut_moves _ _ k j
      · rw [State.timeOut_frame]
        exact .stay
      · rw [State.timeOut_frame]
    next => exact hs
  next =>
    cases h
    exact hs

/-- R128: a millisecond boundary is taken at its time. -/
theorem execTimerMillisecondBoundary_keeps_times (hs : s.TimesLawful) (h : execTimerMillisecondBoundary s = .next t) :
    t.TimesLawful := by
  unfold execTimerMillisecondBoundary at h
  simp only [] at h
  split at h <;> cases h
  next hreach =>
    have hu := hs.reach hreach
    have hboundary : max s.now s.sweep.nextBoundary ≤ s.sweep.nextBoundary := hu.boundary
    exact ⟨hu.deadlines, hboundary.trans (Nat.le_add_right _ _), fun _ _ => hboundary, hu.limit, hu.forced⟩
  next => exact hs

/-- R192: the drain limit is taken at its time. -/
theorem execDrainLimit_keeps_times (hs : s.TimesLawful) (h : execDrainLimit s = .next t) : t.TimesLawful := by
  unfold execDrainLimit at h
  split at h
  next stop hstop =>
    split at h <;> cases h
    next hdue =>
      simp only [Bool.and_eq_true, Bool.not_eq_true'] at hdue
      obtain ⟨⟨⟨hrunning, hdrain⟩, hforcing⟩, hreach⟩ := hdue
      have hu := hs.reach hreach
      have hkind := s.restarting_iff.mp hrunning
      exact ⟨hu.deadlines, hu.boundary, hu.expiry, nofun, fun _ _ _ =>
        hu.limit hkind hforcing (s.drainComplete_eq_false.mp hdrain)⟩
    next => exact hs
  next =>
    cases h
    exact hs

/-! ### RESTART's clear step -/

/-- No other move marks the record cleared. -/
theorem State.UnitMoves.cleared (hm : s.UnitMoves l w) (h : l.cleared = true) : s.long.cleared = true := by
  cases hm
  case finish =>
    unfold LongOp.afterSweep at h
    (repeat' split at h) <;> exact h
  case reset => cases h
  case purge => cases h
  case reown => cases h
  case sweepNow => cases h
  case restart => cases h
  case resume => cases h
  all_goals exact h

/-! ### Every command -/

/-- R118, R119, R128, R130, R192: no command passes a timed happening. -/
theorem exec_keeps_times {c : Instr} (hs : s.TimesLawful) (h : exec c s = .next t) : t.TimesLawful := by
  by_cases hclock : Field.now ∈ touched c ∨ c = .coldReset ∨ c = .clearStep
  · cases c <;> simp [touched] at hclock
    case deadlineExpiry => exact execDeadlineExpiry_keeps_times hs h
    case drainLimit => exact execDrainLimit_keeps_times hs h
    case timerMillisecondBoundary => exact execTimerMillisecondBoundary_keeps_times hs h
    case coldReset =>
      cases h
      constructor <;> simp [State.reset, Sweep.cold, LongOp.cold, State.slot]
    case clearStep =>
      rcases execClearStep_cases h with rfl | ⟨-, -, rfl⟩
      · exact hs
      · refine ⟨?_, hs.boundary, hs.expiry, ?_, ?_⟩ <;> simp [State.slot_clear]
  · obtain ⟨hnow, hreset, hclear⟩ : Field.now ∉ touched c ∧ c ≠ .coldReset ∧ c ≠ .clearStep := by simpa using hclock
    exact hs.of_moves
      (exec_unitMoves (by rintro rfl; simp [touched] at hnow) (by rintro rfl; simp [touched] at hnow) hclear h)
      (exec_same h hnow) (exec_moves_slot hreset h)

/-- R128 to R194: every command keeps the laws of the Aging Sweep and of the long-operation record. -/
theorem exec_keeps_unit {c : Instr} (hs : s.sweep.Lawful ∧ s.LongLawful) (h : exec c s = .next t) :
    t.sweep.Lawful ∧ t.LongLawful := by
  obtain ⟨hsweep, hlong⟩ := hs
  by_cases hown : c = .drainLimit ∨ c = .timerMillisecondBoundary ∨ c = .clearStep
  · rcases hown with rfl | rfl | rfl
    · rw [exec, execDrainLimit] at h
      split at h
      next =>
        split at h <;> cases h
        next hdue =>
          have hkind : s.long.kind = .restart := by
            simp only [Bool.and_eq_true] at hdue
            exact s.restarting_iff.mp hdue.1.1.1
          exact ⟨hsweep, ⟨hlong.walkCursor, hlong.counts, hlong.purge, hlong.reown, hlong.sweep, hlong.restart,
            fun _ => hkind, hlong.cleared⟩⟩
        next => exact ⟨hsweep, hlong⟩
      next =>
        cases h
        exact ⟨hsweep, hlong⟩
    · rw [exec, execTimerMillisecondBoundary] at h
      split at h <;> cases h
      next =>
        refine ⟨⟨hsweep.cursor, hsweep.cursorMax, hsweep.pending, hsweep.released, Nat.min_le_left _ _⟩,
          hlong.of_long rfl hlong.sweep (fun hkind => ?_) fun hc => (hlong.cleared hc).2⟩
        refine ⟨(hlong.restart hkind).2.1, ?_⟩
        simp [s.restarting_iff.mpr hkind]
      next => exact ⟨hsweep, hlong⟩
    · rcases execClearStep_cases h with rfl | ⟨hrunning, -, rfl⟩
      · exact ⟨hsweep, hlong⟩
      · have hkind := s.restarting_iff.mp hrunning
        have hkind' : s.clear.long.kind = .restart := hkind
        refine ⟨hsweep, ?_⟩
        constructor <;> simp [hkind']
        case restart => exact hlong.restart hkind
  · obtain ⟨hlimit, hboundary, hclear⟩ : c ≠ .drainLimit ∧ c ≠ .timerMillisecondBoundary ∧ c ≠ .clearStep := by
      simpa using hown
    have hm := exec_unitMoves hlimit hboundary hclear h
    refine ⟨hm.keeps_sweep hsweep, hm.keeps_long hlong rfl rfl fun hcleared k => ?_⟩
    obtain ⟨hkind, hfree⟩ := hlong.cleared (hm.cleared hcleared)
    by_cases hreset : c = .coldReset
    · subst hreset
      cases h
      simp [LongOp.cold, State.reset] at hcleared
    · exact (exec_moves_slot hreset h k).free_of_restarting (s.restarting_iff.mpr hkind) (hfree k)

/-- Settles O54: the laws by `exec_keeps_unit`; the times by `exec_keeps_times`, and with nothing due the time moves on to
one before which nothing falls due. -/
theorem stepsKeepTheSweepAndLongCommandLaws : Obligations.StepsKeepTheSweepAndLongCommandLaws := by
  intro s t h
  constructor
  · intro hs
    exact step_keeps (P := fun s => s.sweep.Lawful ∧ s.LongLawful)
      (fun s _ h => ⟨h.1, ⟨h.2.walkCursor, h.2.counts, h.2.purge, h.2.reown, h.2.sweep, h.2.restart, h.2.forcing, h.2.cleared⟩⟩)
      (fun s _ h => ⟨h.1, ⟨h.2.walkCursor, h.2.counts, h.2.purge, h.2.reown, h.2.sweep, h.2.restart, h.2.forcing, h.2.cleared⟩⟩)
      (fun _ _ _ hs h => exec_keeps_unit hs h) hs h
  · intro hs
    rcases step_cases h with ⟨c, rest, -, hc⟩ | ⟨-, c, -, hc⟩ | ⟨-, hnone, rfl⟩
    · exact exec_keeps_times (s := { s with pending := rest })
        ⟨hs.deadlines, hs.boundary, hs.expiry, hs.limit, hs.forced⟩ hc
    · exact exec_keeps_times hs hc
    · exact State.nothingDueBefore_putNow ((s.dueBy_eq_none s.now).mp hnone)

end Sys2Proof.Machine

/-! A management command that is taken: the state it leaves, the reply it makes, and the three ways it can be refused whatever
it is. -/

namespace Sys2Proof.Machine

set_option Elab.async false

variable {s u v : State} {c : Command} {i : Instr} {body : State → Answer} {st : Status} {rs : List Byte}

/-- The state after a management command that is taken and answered by its body. -/
def State.answeredBy (s : State) (c : Command) (body : State → Answer) : State :=
  (body s).state.fixReply ⟨(body s).status, (body s).results⟩ (if c = .repeatReply then none else some c.code)

/-- R162, R170: a command that is ready is answered by its body. -/
theorem runCommand_of_readyFor (h : s.readyFor i) : runCommand c i body s = .next (s.answeredBy c body) :=
  runCommand_of_ready h.1 h.2

/-- The state is the one the body leaves, but for the port and the frames held. -/
theorem State.answeredBy_eq (h : (body s).state = v) :
    s.answeredBy c body = { v with port := (s.answeredBy c body).port, passedOn := (s.answeredBy c body).passedOn } :=
  (State.fixReply_eq ..).trans (congrArg (fun v : State =>
    { v with port := (s.answeredBy c body).port, passedOn := (s.answeredBy c body).passedOn }) h)

/-- R163, R166: the reply is the body's, made and stored. -/
theorem State.answered_answeredBy (hc : c ≠ .repeatReply) (hb : body s = ⟨u, st, rs⟩) (hframe : (body s).state = v)
    (hport : v.port = s.port := by rfl) (hheld : v.passedOn = s.passedOn := by rfl) :
    Answered s (s.answeredBy c body) c.code st rs :=
  answered_body hc (by rw [hframe, hport]) (by rw [hframe, hheld]) (by rw [hb]) (by rw [hb])

/-! ### The fence, the argument checks and refusals -/

/-- Settles O29: the fence refuses each command that is not exempt, before its body is reached. -/
theorem restartFencesCommands : Obligations.RestartFencesCommands := by
  intro s i c bs hframe hstatus hrepeat hfetch hkind htake
  obtain ⟨body, hexec, -⟩ := exec_body s i c bs hframe
  have hexempt : exemptFromRestart c = false := by
    cases c
    case status => exact absurd rfl hstatus
    case repeatReply => exact absurd rfl hrepeat
    case fetchEvents => exact absurd rfl hfetch
    all_goals rfl
  have hanswer := runCommand_of_restarting (body := body) htake (s.restarting_iff.mpr hkind) hexempt
  rw [if_neg hrepeat] at hanswer
  exact ⟨_, hexec.trans hanswer, answered_fixReply rfl rfl _ _ _, s.fixReply_eq _ _⟩

/-- R198: a key whose window or granule number is out of range names nothing. -/
theorem keyArg_none_of {w : Byte} {g : BitVec 24} (h : indexArg w = none ∨ granuleArg g = none) : keyArg w g = none := by
  unfold keyArg
  rcases h with h | h
  · rw [h]
  · rw [h]
    cases indexArg w <;> rfl

/-- R169, R198: a body refuses the arguments of its command that are out of range. -/
theorem exec_of_badArguments {bs : List Byte} (hframe : frameOf i = some (c, bs)) (hbad : badArguments i) (s : State) :
    ∃ body, exec i s = runCommand c i body s ∧ body s = refuse s .badArgument ∧ c ≠ .repeatReply := by
  cases i <;> simp only [frameOf, Option.some.injEq, Prod.mk.injEq, reduceCtorEq] at hframe <;> obtain ⟨rfl, -⟩ := hframe <;>
    simp only [badArguments] at hbad <;> refine ⟨_, rfl, ?_, nofun⟩
  case setWindow w m =>
    rw [← indexArg_none, ← imageAdmissible_iff] at hbad
    unfold setWindowBody
    split
    next => rfl
    next w' hw =>
      rw [hw] at hbad
      exact if_pos (by simpa using hbad)
  case enableWindow =>
    rw [← indexArg_none, ← choiceArg_none] at hbad
    unfold enableWindowBody
    split <;> simp_all
  case readWindow =>
    rw [← indexArg_none] at hbad
    simp only [readWindowBody, hbad]
  case setGate =>
    rw [← indexArg_none, ← gateStateArg_none] at hbad
    unfold setGateBody
    split <;> simp_all
  case setGateConfig =>
    rw [← indexArg_none, ← choiceArg_none, ← choiceArg_none, ← exhaustArg_none] at hbad
    unfold setGateConfigBody
    split <;> simp_all
  case loadBudget =>
    rw [← indexArg_none] at hbad
    simp only [loadBudgetBody, hbad]
  case readGate =>
    rw [← indexArg_none] at hbad
    simp only [readGateBody, hbad]
  case readCounters =>
    rw [← indexArg_none, ← choiceArg_none] at hbad
    unfold readCountersBody
    split <;> simp_all
  case insertEntry m =>
    unfold insertEntryBody
    split
    next => rfl
    next key hkey =>
      have hkind : m.kind = .free ∨ m.kind = .claimed := by
        refine hbad.resolve_left fun hgranule => ?_
        rw [imageKey, granuleArg_none.mpr hgranule] at hkey
        cases hkey
      have hnone : insertedEntry m key = none := by rcases hkind with h | h <;> simp only [insertedEntry, h]
      simp only [hnone]
  case updateEntry =>
    rw [← granuleArg_none, ← choiceArg_none] at hbad
    unfold updateEntryBody imageKey
    split <;> simp_all
  case deleteEntry =>
    rw [← indexArg_none, ← granuleArg_none] at hbad
    have hkey := keyArg_none_of hbad
    simp only [deleteEntryBody, hkey]
  case findEntry =>
    rw [← indexArg_none, ← granuleArg_none] at hbad
    have hkey := keyArg_none_of hbad
    simp only [findEntryBody, hkey]
  case readEntry => exact dif_neg (by omega)
  case fetchEvents => exact if_pos hbad
  case purge =>
    rw [← filterArg_none, ← filterArg_none, ← kindSetArg_none] at hbad
    unfold purgeBody
    split <;> simp_all
  case reown =>
    rw [← indexArg_none, ← indexArg_none, ← filterArg_none] at hbad
    unfold reownBody
    split
    next hsource htarget hfilter =>
      obtain rfl := ((hbad.resolve_left (by simp [hsource])).resolve_left (by simp [htarget])).resolve_left (by simp [hfilter])
      exact if_pos (Option.some.inj (hsource.symm.trans htarget))
    next => rfl

/-- Settles O30: the body refuses the arguments, and nothing comes before its checks, since RESTART does not run or the
command is exempt from its fence. -/
theorem badArgumentsAreRefused : Obligations.BadArgumentsAreRefused := by
  intro s i c bs hframe hfence htake hbad
  obtain ⟨body, hexec, hbody, hc⟩ := exec_of_badArguments hframe hbad s
  have hanswer : runCommand c i body s = .next (s.answeredBy c body) := by
    rcases hfence with hkind | rfl
    · exact runCommand_of_readyFor ⟨htake, by rw [← Bool.not_eq_true, s.restarting_iff]; exact hkind⟩
    · exact runCommand_of_exempt htake rfl
  have hstate : (body s).state = s := by rw [hbody]; rfl
  exact ⟨_, hexec.trans hanswer, State.answered_answeredBy hc hbody hstate, State.answeredBy_eq hstate⟩

/-- Settles O31: the answer is the fence's or the body's; a refusal of either leaves the state, and a command that is not
taken leaves all of it. -/
theorem refusedCommandChangesNothing : Obligations.RefusedCommandChangesNothing := by
  intro s t i c bs hframe hexec
  obtain ⟨body, hbody, hresults, hrefused, hport, hheld⟩ := exec_body s i c bs hframe
  rw [hbody] at hexec
  rcases runCommand_cases c i body s with ⟨hnot, hcase⟩ | ⟨htake, a, ha, hcase⟩ <;> rw [hcase] at hexec <;> cases hexec
  · exact ⟨fun h => absurd (hnot.symm.trans h) nofun, fun _ => rfl⟩
  · obtain ⟨hport, hheld, hresults, hrefused⟩ : a.state.port = s.port ∧ a.state.passedOn = s.passedOn
        ∧ (a.status ≠ .done → a.results = []) ∧ (a.status ≠ .done → a.status ≠ .accepted → a.state = s) := by
      rcases ha with rfl | rfl
      · exact ⟨rfl, rfl, fun _ => rfl, fun _ _ => rfl⟩
      · exact ⟨hport, hheld, hresults, hrefused⟩
    refine ⟨fun _ => ⟨⟨a.status, a.results⟩, replied_fixReply hport hheld _ _, fun hc => ?stored, fun hc => ?kept, hresults,
      fun hdone haccepted => ?same⟩, fun hnot => absurd (hnot.symm.trans htake) nofun⟩
    case stored =>
      rw [if_neg hc]
      rfl
    case kept =>
      rw [if_pos hc, State.fixReply, hport]
    case same =>
      rw [hrefused hdone haccepted]
      exact s.fixReply_eq _ _

end Sys2Proof.Machine

/-! The commands of the Window Map, the outside policy and the timers. -/

namespace Sys2Proof.Machine

set_option Elab.async false

variable {s : State} {w : WindowNo} {m : WindowImage}

/-! ### SET_WINDOW -/

/-- R40 check 4: an image whose window would overrun the address space is refused. -/
theorem setWindowBody_overrun (hm : AdmissibleImage m)
    (hend : 2 ^ 40 < m.base.toNat + m.size.toNat * 2 ^ m.exponent.toNat) :
    setWindowBody (indexByte w) m s = refuse s .range := by
  have hfits : imageFits m = false := by
    rw [← Bool.not_eq_true, imageFits_iff]
    omega
  simp [setWindowBody, imageAdmissible_iff.mpr hm, hfits]

/-- R41: the check on a window that is in use. -/
theorem setWindowBody_fitting (hm : AdmissibleImage m)
    (hend : m.base.toNat + m.size.toNat * 2 ^ m.exponent.toNat ≤ 2 ^ 40) :
    setWindowBody (indexByte w) m s =
      if imageDiffers m (s.window w) && ((s.window w).enabled || decide (0 < s.entryCount w)) then refuse s .windowInUse
      else done (s.putWindow w (imageWrite m (s.window w))) := by
  simp [setWindowBody, imageAdmissible_iff.mpr hm, (imageFits_iff m).mpr hend]

/-- Settles O32: the three outcomes of SET_WINDOW's checks. -/
theorem setWindowWritesTheRecord : Obligations.SetWindowWritesTheRecord := by
  intro s w m hready hm end_ old sameGeometry inUse
  have hframe := setWindowBody_frame (indexByte w) m s
  have huse : ((s.window w).enabled || decide (0 < s.entryCount w)) = true ↔ inUse := by
    rw [Bool.or_eq_true, decide_eq_true_iff, State.entryCount_pos]
  have hdiffers : imageDiffers m (s.window w) = true ↔ ¬ sameGeometry := imageDiffers_iff m (s.window w)
  refine ⟨_, runCommand_of_readyFor hready, fun hend => ?overrun, fun hend hgeometry hinUse => ?inUse,
    fun hend hfree => ?written, State.answeredBy_eq hframe⟩
  case overrun =>
    have hbody := setWindowBody_overrun (s := s) (w := w) hm hend
    refine ⟨State.answered_answeredBy nofun hbody hframe, ?_⟩
    exact congrArg (fun a : Answer => a.state.windows) hbody
  case inUse =>
    have hbody := (setWindowBody_fitting (s := s) (w := w) hm hend).trans
      (if_pos (by rw [Bool.and_eq_true, hdiffers, huse]; exact ⟨hgeometry, hinUse⟩))
    refine ⟨State.answered_answeredBy nofun hbody hframe, ?_⟩
    exact congrArg (fun a : Answer => a.state.windows) hbody
  case written =>
    have hbody := (setWindowBody_fitting (s := s) (w := w) hm hend).trans
      (if_neg (by rw [Bool.and_eq_true, hdiffers, huse]; exact fun h => hfree.elim h.1 (absurd h.2)))
    have hwindow (v : WindowNo) : (s.answeredBy .setWindow (setWindowBody (indexByte w) m)).window v
        = (s.putWindow w (imageWrite m (s.window w))).window v := congrArg (fun a : Answer => a.state.window v) hbody
    exact ⟨State.answered_answeredBy nofun hbody hframe, (hwindow w).trans (State.window_putWindow_self ..),
      fun v hv => (hwindow v).trans (State.window_putWindow_of_ne _ _ _ _ hv)⟩

/-! ### ENABLE_WINDOW -/

/-- R43: the checks of a window that is to be enabled. -/
theorem enableWindowBody_on : enableWindowBody (indexByte w) (choiceByte true) s =
    if (s.window w).size = 0 then refuse s .range
    else if s.overlaps w then refuse s .overlap
    else done (s.putWindow w { s.window w with enabled := true }) := by
  simp only [enableWindowBody, indexArg_indexByte, choiceArg_choiceByte]

/-- R44: a window is disabled without a check. -/
theorem enableWindowBody_off : enableWindowBody (indexByte w) (choiceByte false) s =
    done (s.putWindow w { s.window w with enabled := false }) := by
  simp only [enableWindowBody, indexArg_indexByte, choiceArg_choiceByte]

/-- Settles O33: the outcomes of ENABLE_WINDOW's checks. -/
theorem enableWindowSetsTheFlag : Obligations.EnableWindowSetsTheFlag := by
  intro s w on hready meetsAnother
  have hframe := enableWindowBody_frame (indexByte w) (choiceByte on) s
  have hoverlaps : s.overlaps w = true ↔ meetsAnother := s.overlaps_iff w
  refine ⟨_, runCommand_of_readyFor hready, fun hon hsize => ?empty, fun hon hsize hmeets => ?overlap, fun hfree => ?set,
    State.answeredBy_eq hframe⟩
  case empty =>
    subst hon
    have hbody := (enableWindowBody_on (s := s) (w := w)).trans (if_pos hsize)
    exact ⟨State.answered_answeredBy nofun hbody hframe, congrArg (fun a : Answer => a.state.windows) hbody⟩
  case overlap =>
    subst hon
    have hbody := ((enableWindowBody_on (s := s) (w := w)).trans (if_neg (by omega))).trans (if_pos (hoverlaps.mpr hmeets))
    exact ⟨State.answered_answeredBy nofun hbody hframe, congrArg (fun a : Answer => a.state.windows) hbody⟩
  case set =>
    have hbody : enableWindowBody (indexByte w) (choiceByte on) s
        = done (s.putWindow w { s.window w with enabled := on }) := by
      cases on with
      | false => exact enableWindowBody_off
      | true =>
        obtain ⟨hsize, hapart⟩ := hfree.resolve_left nofun
        rw [enableWindowBody_on, if_neg (by omega), if_neg (by rwa [hoverlaps])]
    have hwindow (v : WindowNo) : (s.answeredBy .enableWindow (enableWindowBody (indexByte w) (choiceByte on))).window v
        = (s.putWindow w { s.window w with enabled := on }).window v := congrArg (fun a : Answer => a.state.window v) hbody
    exact ⟨State.answered_answeredBy nofun hbody hframe, (hwindow w).trans (State.window_putWindow_self ..),
      fun v hv => (hwindow v).trans (State.window_putWindow_of_ne _ _ _ _ hv)⟩

/-! ### SET_OUTSIDE and SET_TIMERS -/

/-- Settles O34: neither command has a check, and each body writes its own fields. -/
theorem outsideAndTimersAreWritten : Obligations.OutsideAndTimersAreWritten := by
  refine fun s => ⟨fun m hready => ?outside, fun timeout interval hready => ?timers⟩
  case outside =>
    exact ⟨_, runCommand_of_readyFor hready, State.answered_answeredBy nofun (body := setOutsideBody m) rfl rfl,
      State.answeredBy_eq rfl⟩
  case timers =>
    exact ⟨_, runCommand_of_readyFor hready,
      State.answered_answeredBy nofun (body := setTimersBody timeout interval) rfl rfl, State.answeredBy_eq rfl⟩

end Sys2Proof.Machine

/-! The commands of the Gate File, and the commands that only read. -/

namespace Sys2Proof.Machine

set_option Elab.async false

variable {s : State} {i : Initiator}

/-! ### The gate commands -/

/-- A command whose body replaces one gate record changes that gate and no other. -/
theorem State.gate_answeredBy {c : Command} {body : State → Answer} {g : Gate} {rs : List Byte}
    (hbody : body s = done (s.putGate i g) rs) :
    (s.answeredBy c body).gate i = g ∧ (∀ j, j ≠ i → (s.answeredBy c body).gate j = s.gate j)
    ∧ s.answeredBy c body = { s with
        gates := (s.answeredBy c body).gates, port := (s.answeredBy c body).port
        passedOn := (s.answeredBy c body).passedOn } := by
  have hgates : (s.answeredBy c body).gates = (s.putGate i g).gates := congrArg (fun a : Answer => a.state.gates) hbody
  have hgate (j : Initiator) : (s.answeredBy c body).gate j = (s.putGate i g).gate j := by
    rw [State.gate, hgates, State.gate]
  refine ⟨(hgate i).trans (State.gate_putGate_self ..), fun j hj => (hgate j).trans (State.gate_putGate_of_ne _ _ _ _ hj), ?_⟩
  rw [hgates]
  exact State.answeredBy_eq (congrArg Answer.state hbody)

/-- R83: OPEN and LISTEN zero the trip count. -/
theorem Gate.setState_eq (g : Gate) (st : GateState) : g.setState st =
    { g with state := st, tripCount := if st = .opened ∨ st = .listen then 0 else g.tripCount } := by
  cases st <;> rfl

/-- Settles O35: each body replaces one gate record. -/
theorem gateCommandsReachTheirFields : Obligations.GateCommandsReachTheirFields := by
  refine fun s i => ⟨fun st hready => ?setGate, fun privileged threshold budgetOn exhaust => ?setGateConfig,
    fun remaining next hready => ?loadBudget, fun clear hready => ?readCounters⟩
  case setGate =>
    have hbody : setGateBody (indexByte i) st.code s = done (s.putGate i ((s.gate i).setState st)) := by
      simp only [setGateBody, indexArg_indexByte, gateStateArg_code]
    rw [Gate.setState_eq] at hbody
    exact ⟨_, runCommand_of_readyFor hready,
      State.answered_answeredBy nofun hbody (setGateBody_frame (indexByte i) st.code s), State.gate_answeredBy hbody⟩
  case setGateConfig =>
    intro c hready
    have hbody : setGateConfigBody (indexByte i) (choiceByte privileged) threshold (choiceByte budgetOn)
        (exhaustByte exhaust) s = done (s.putGate i { s.gate i with
          privileged := privileged, tripThreshold := threshold.toNat, budgetOn := budgetOn, exhaust := exhaust }) := by
      simp only [setGateConfigBody, indexArg_indexByte, choiceArg_choiceByte, exhaustArg_exhaustByte]
    exact ⟨_, runCommand_of_readyFor hready,
      State.answered_answeredBy nofun hbody (setGateConfigBody_frame _ _ _ _ _ s), State.gate_answeredBy hbody⟩
  case loadBudget =>
    have hbody : loadBudgetBody (indexByte i) remaining next s
        = done (s.putGate i { s.gate i with remaining := remaining.toNat, next := next.toNat }) := by
      simp only [loadBudgetBody, indexArg_indexByte]
    exact ⟨_, runCommand_of_readyFor hready, State.answered_answeredBy nofun hbody (loadBudgetBody_frame _ _ _ s),
      State.gate_answeredBy hbody⟩
  case readCounters =>
    have hbody : readCountersBody (indexByte i) (choiceByte clear) s = done (s.putGate i
        (if clear then { s.gate i with admitted := 0, refused := 0, claims := 0 } else s.gate i)) (s.gate i).counterBytes := by
      cases clear with
      | true => simp only [readCountersBody, indexArg_indexByte, choiceArg_choiceByte, if_true]
      | false =>
        have hsame : s.putGate i (s.gate i) = s := by simp [State.putGate, State.gate]
        simp [readCountersBody, hsame]
    exact ⟨_, runCommand_of_readyFor hready, State.answered_answeredBy nofun hbody (readCountersBody_frame _ _ s),
      State.gate_answeredBy hbody⟩

/-! ### The commands that only read -/

/-- Two tests that agree count the same records. -/
theorem Vec.count_congr {α : Type} {n : Nat} (v : Vec α n) {f g : α → Bool} (h : ∀ x, f x = g x) : v.count f = v.count g := by
  rw [funext h]

/-- Settles O36: each body leaves the state, and its reply is the state's image. -/
theorem readingCommandsReplyAndChangeNothing : Obligations.ReadingCommandsReplyAndChangeNothing := by
  refine fun s => ⟨fun w hready => ?readWindow, fun i hready => ?readGate, fun w g hg hready => ?findEntry,
    fun htake => ?status⟩
  case readWindow =>
    have hcount : s.entryCount w = s.table.count fun x => decide (x.key?.map Key.window = some w) :=
      Vec.count_congr _ fun x => by cases hx : x.key? <;> simp [Entry.inWindow, hx]
    have hbody : readWindowBody (indexByte w) s = done s ((s.window w).image.bytes
        ++ bytesOf 2 (s.table.count fun x => decide (x.key?.map Key.window = some w)) ++ s.outside.image.bytes) := by
      simp only [readWindowBody, indexArg_indexByte, hcount]
    exact ⟨_, runCommand_of_readyFor hready, State.answered_answeredBy nofun hbody (congrArg Answer.state hbody),
      State.answeredBy_eq (congrArg Answer.state hbody)⟩
  case readGate =>
    have hbody : readGateBody (indexByte i) s = done s ((s.gate i).bytes (s.lane i).isSome) := by
      simp only [readGateBody, indexArg_indexByte]
    exact ⟨_, runCommand_of_readyFor hready, State.answered_answeredBy nofun hbody (congrArg Answer.state hbody),
      State.answeredBy_eq (congrArg Answer.state hbody)⟩
  case findEntry =>
    have hframe := findEntryBody_frame (indexByte w) g s
    refine ⟨_, runCommand_of_readyFor hready, fun e he => ?_, fun hnone => ?_, State.answeredBy_eq hframe⟩
    · have hbody : findEntryBody (indexByte w) g s = done s (s.entryBytes e) := by
        simp only [findEntryBody, keyArg_some w hg, he]
      exact State.answered_answeredBy nofun hbody hframe
    · have hbody : findEntryBody (indexByte w) g s = refuse s .notFound := by
        simp only [findEntryBody, keyArg_some w hg, hnone]
      exact State.answered_answeredBy nofun hbody hframe
  case status =>
    have hslots : s.occupiedSlots = s.slots.count fun x => decide (x ≠ .free) :=
      Vec.count_congr _ fun x => by cases x <;> rfl
    have hbody : statusBody s = done s s.statusBytes := rfl
    rw [State.statusBytes, hslots] at hbody
    exact ⟨_, runCommand_of_exempt htake rfl, State.answered_answeredBy nofun hbody rfl, State.answeredBy_eq rfl⟩

/-- Settles O42: the body leaves the state, and its reply, which is not stored, is the last reply or NO_REPLY. -/
theorem repeatReplyReturnsTheLastReply : Obligations.RepeatReplyReturnsTheLastReply := by
  intro s htake
  have hframe := repeatReplyBody_frame s
  refine ⟨_, runCommand_of_exempt htake rfl, ?reply, ?kept, State.answeredBy_eq hframe⟩
  case reply =>
    cases hlast : s.port.lastReply with
    | none =>
      have hbody : repeatReplyBody s = refuse s .noReply := by simp only [repeatReplyBody, hlast]
      rw [hbody]
      exact replied_fixReply rfl rfl _ _
    | some r =>
      have hbody : repeatReplyBody s = done s (r.code :: r.status.code :: r.results) := by
        simp only [repeatReplyBody, hlast]
      rw [hbody]
      exact replied_fixReply rfl rfl _ _
  case kept =>
    change (repeatReplyBody s).state.port.lastReply = s.port.lastReply
    rw [hframe]

end Sys2Proof.Machine

/-! The table commands: INSERT_ENTRY, UPDATE_ENTRY and DELETE_ENTRY. -/

namespace Sys2Proof.Machine

set_option Elab.async false

variable {s : State} {key : Key} {e : EntryIndex} {m : EntryImage}

/-- R3: no entry is found exactly where none of the bucket's ways matches. -/
theorem State.lookup_eq_none_iff : s.lookup key = none ↔ ∀ e ∈ key.ways, (s.entry e).key? ≠ some key := by
  simp [State.lookup, List.find?_eq_none]

/-- A command whose body replaces one entry changes that entry and no other. -/
theorem State.entry_answeredBy {c : Command} {body : State → Answer} {x : Entry} {rs : List Byte}
    (hbody : body s = done (s.putEntry e x) rs) :
    (s.answeredBy c body).entry e = x ∧ ∀ j, j ≠ e → (s.answeredBy c body).entry j = s.entry j := by
  have hentry (j : EntryIndex) : (s.answeredBy c body).entry j = (s.putEntry e x).entry j :=
    congrArg (fun a : Answer => a.state.entry j) hbody
  exact ⟨(hentry e).trans (State.entry_putEntry_self ..),
    fun j hj => (hentry j).trans (State.entry_putEntry_of_ne _ _ _ _ hj)⟩

/-- A command whose body refuses leaves the table. -/
theorem State.table_answeredBy {c : Command} {body : State → Answer} {st : Status} (hbody : body s = refuse s st) :
    (s.answeredBy c body).table = s.table :=
  congrArg (fun a : Answer => a.state.table) hbody

/-! ### INSERT_ENTRY -/

section

variable {x : Entry} (hkey : imageKey m = some key) (hx : insertedEntry m key = some x)

include hkey hx

/-- R23: a granule number past the window's size. -/
theorem insertEntryBody_range (hsize : (s.window key.window).size ≤ key.granule) :
    insertEntryBody m s = refuse s .range := by
  simp only [insertEntryBody, hkey, hx, hsize, if_true]

variable (hsize : ¬ (s.window key.window).size ≤ key.granule)

include hsize

/-- R23: a key that an entry matches. -/
theorem insertEntryBody_duplicate (hlookup : ∃ e ∈ key.ways, (s.entry e).key? = some key) :
    insertEntryBody m s = refuse s .duplicate := by
  have hsome : (s.lookup key).isSome = true := by
    rw [Option.isSome_iff_ne_none, ne_eq, State.lookup_eq_none_iff]
    simpa using hlookup
  simp only [insertEntryBody, hkey, hx, hsize, hsome, if_true, if_false]

/-- R23: a bucket with no FREE way. -/
theorem insertEntryBody_full (hlookup : ∀ e ∈ key.ways, (s.entry e).key? ≠ some key) (hway : s.freeWay key = none) :
    insertEntryBody m s = refuse s .bucketFull := by
  simp [insertEntryBody, hkey, hx, hsize, State.lookup_eq_none_iff.mpr hlookup, hway]

/-- R24: the placement. -/
theorem insertEntryBody_placed (hlookup : ∀ e ∈ key.ways, (s.entry e).key? ≠ some key) (hway : s.freeWay key = some e) :
    insertEntryBody m s = done (s.putEntry e x) (bytesOf 2 e.val) := by
  simp [insertEntryBody, hkey, hx, hsize, State.lookup_eq_none_iff.mpr hlookup, hway]

end

/-- R24: the entry an admitted image asks for. -/
theorem insertedEntry_some (hkind : m.kind = .pinned ∨ m.kind = .barred) (key : Key) :
    insertedEntry m key = some (if m.kind = .barred then .barred key
      else .pinned key ⟨m.owner, shareWithout m.share m.owner, m.strict⟩) := by
  rcases hkind with h | h <;> simp [insertedEntry, h]

/-- Settles O38: the checks of INSERT_ENTRY in their order, and the placement. -/
theorem insertEntryPlacesTheKey : Obligations.InsertEntryPlacesTheKey := by
  intro s m hready hgranule hkind key inRange
  have hkey : imageKey m = some key := imageKey_some hgranule
  have hx := insertedEntry_some hkind key
  have hframe := insertEntryBody_frame m s
  refine ⟨_, runCommand_of_readyFor hready, fun hsize => ?range, fun hsize hmatch => ?duplicate,
    fun hsize hnone hfull => ?full, fun hsize hnone e he hfree hlowest => ?placed, State.answeredBy_eq hframe⟩
  case range =>
    have hbody := insertEntryBody_range (s := s) hkey hx (Nat.le_of_not_lt hsize)
    exact ⟨State.answered_answeredBy nofun hbody hframe, State.table_answeredBy hbody⟩
  case duplicate =>
    have hbody := insertEntryBody_duplicate (s := s) hkey hx (Nat.not_le_of_lt hsize) hmatch
    exact ⟨State.answered_answeredBy nofun hbody hframe, State.table_answeredBy hbody⟩
  case full =>
    have hbody := insertEntryBody_full (s := s) hkey hx (Nat.not_le_of_lt hsize) hnone (State.freeWay_none_of hfull)
    exact ⟨State.answered_answeredBy nofun hbody hframe, State.table_answeredBy hbody⟩
  case placed =>
    have hbody := insertEntryBody_placed (s := s) hkey hx (Nat.not_le_of_lt hsize) hnone (State.freeWay_of he hfree hlowest)
    exact ⟨State.answered_answeredBy nofun hbody hframe, State.entry_answeredBy hbody⟩

/-! ### UPDATE_ENTRY and DELETE_ENTRY -/

section

variable (hkey : imageKey m = some key) {convert : Bool}

include hkey

theorem updateEntryBody_notFound (hlookup : s.lookup key = none) :
    updateEntryBody m (choiceByte convert) s = refuse s .notFound := by
  simp only [updateEntryBody, hkey, choiceArg_choiceByte, hlookup]

/-- R25, R26: the checks on the entry that matches. -/
theorem updateEntryBody_found (hlookup : s.lookup key = some e) : updateEntryBody m (choiceByte convert) s =
    if (s.entry e).isBarred then refuse s .badArgument
    else if (s.entry e).claimSlot?.isSome then refuse s .pending
    else done (s.putEntry e ((s.entry e).updated m convert)) (bytesOf 2 e.val) := by
  simp only [updateEntryBody, hkey, choiceArg_choiceByte, hlookup]

end

/-- R26: UPDATE_ENTRY reaches the entry that matches its key. -/
theorem updateEntry_reaches {s : State} {m : EntryImage} {convert : Bool}
    (hready : s.readyFor (.updateEntry m (choiceByte convert))) (hgranule : m.granule.toNat ≤ 1048575) :
    let key : Key := ⟨m.window, m.granule.toNat⟩
    let share := shareWithout m.share m.owner
    ∃ t, exec (.updateEntry m (choiceByte convert)) s = .next t
      ∧ (s.lookup key = none → Answered s t 0x31 .notFound [] ∧ t.table = s.table)
      ∧ (∀ e, s.lookup key = some e →
        (∀ k, s.entry e = .barred k → Answered s t 0x31 .badArgument [] ∧ t.table = s.table)
        ∧ (∀ k c, s.entry e = .claimed k c → c.claimSlot ≠ none → Answered s t 0x31 .pending [] ∧ t.table = s.table)
        ∧ (∀ k c, s.entry e = .claimed k c → c.claimSlot = none → Answered s t 0x31 .done (bytesOf 2 e.val)
            ∧ t.entry e = (if convert then .pinned k ⟨m.owner, share, m.strict⟩
                           else .claimed k { c with owner := m.owner, share := share, strict := m.strict })
            ∧ ∀ j, j ≠ e → t.entry j = s.entry j)
        ∧ (∀ k p, s.entry e = .pinned k p → Answered s t 0x31 .done (bytesOf 2 e.val)
            ∧ t.entry e = .pinned k ⟨m.owner, share, m.strict⟩ ∧ ∀ j, j ≠ e → t.entry j = s.entry j))
      ∧ t = { s with table := t.table, port := t.port, passedOn := t.passedOn } := by
  intro key share
  have hkey : imageKey m = some key := imageKey_some hgranule
  have hframe := updateEntryBody_frame m (choiceByte convert) s
  refine ⟨_, runCommand_of_readyFor hready, fun hnone => ?notFound, fun e he =>
    ⟨fun k hx => ?barred, fun k c hx hpending => ?pending, fun k c hx hfree => ?claimed, fun k p hx => ?pinned⟩,
    State.answeredBy_eq hframe⟩
  case notFound =>
    have hbody := updateEntryBody_notFound (convert := convert) hkey hnone
    exact ⟨State.answered_answeredBy nofun hbody hframe, State.table_answeredBy hbody⟩
  case barred =>
    have hbody := (updateEntryBody_found (convert := convert) hkey he).trans (if_pos (by rw [hx]; rfl))
    exact ⟨State.answered_answeredBy nofun hbody hframe, State.table_answeredBy hbody⟩
  case pending =>
    have hsome : (s.entry e).claimSlot?.isSome = true := by
      rw [hx]
      exact Option.isSome_iff_ne_none.mpr hpending
    have hbody := ((updateEntryBody_found (convert := convert) hkey he).trans (if_neg (by simp [hx, Entry.isBarred]))).trans
      (if_pos hsome)
    exact ⟨State.answered_answeredBy nofun hbody hframe, State.table_answeredBy hbody⟩
  case claimed =>
    have hbody := ((updateEntryBody_found (convert := convert) hkey he).trans (if_neg (by simp [hx, Entry.isBarred]))).trans
      (if_neg (by simp [hx, Entry.claimSlot?, hfree]))
    rw [hx] at hbody
    exact ⟨State.answered_answeredBy nofun hbody hframe, State.entry_answeredBy hbody⟩
  case pinned =>
    have hbody := ((updateEntryBody_found (convert := convert) hkey he).trans (if_neg (by simp [hx, Entry.isBarred]))).trans
      (if_neg (by simp [hx, Entry.claimSlot?]))
    rw [hx] at hbody
    exact ⟨State.answered_answeredBy nofun hbody hframe, State.entry_answeredBy hbody⟩

/-- Settles O39: UPDATE_ENTRY by `updateEntry_reaches`, and DELETE_ENTRY by what freeing an entry does. -/
theorem updateAndDeleteReachTheMatchingEntry : Obligations.UpdateAndDeleteReachTheMatchingEntry := by
  refine fun s => ⟨fun m convert hready hgranule => updateEntry_reaches hready hgranule, fun w g hready hgranule => ?_⟩
  have hframe := deleteEntryBody_frame (indexByte w) g s
  refine ⟨_, runCommand_of_readyFor hready, fun hnone => ?notFound, fun e he => ?freed, State.answeredBy_eq hframe⟩
  case notFound =>
    have hbody : deleteEntryBody (indexByte w) g s = refuse s .notFound := by
      simp only [deleteEntryBody, keyArg_some w hgranule, hnone]
    exact ⟨State.answered_answeredBy nofun hbody hframe, State.table_answeredBy hbody,
      congrArg (fun a : Answer => a.state.slots) hbody⟩
  case freed =>
    have hbody : deleteEntryBody (indexByte w) g s = done (s.freeEntry e) (s.entryBytes e) := by
      simp only [deleteEntryBody, keyArg_some w hgranule, he]
    refine ⟨State.answered_answeredBy nofun hbody hframe, fun j => ?_, fun k => ?_⟩
    · exact (congrArg (fun a : Answer => a.state.entry j) hbody).trans (s.entry_freeEntry e j)
    · exact (congrArg (fun a : Answer => a.state.slot k) hbody).trans (s.slot_freeEntry e k)

end Sys2Proof.Machine

/-! The Event Queue's commands: FETCH_EVENTS and ACK_EVENTS. -/

namespace Sys2Proof.Machine

set_option Elab.async false

variable {s : State} {q : EventQueue} {older newer : List Record} {r : Record} {n : BitVec 16}

/-- R140: no two records held have one sequence number. -/
theorem EventQueue.Lawful.sequence_inj (hq : q.Lawful) {i j : Nat} {a b : Record} (ha : q.records[i]? = some a)
    (hb : q.records[j]? = some b) (h : a.sequence = b.sequence) : i = j := by
  have hi := (List.getElem?_eq_some_iff.mp ha).1
  have hj := (List.getElem?_eq_some_iff.mp hb).1
  have hdepth := hq.depth
  have hsum := (hq.numbered i a ha).trans (hq.numbered j b hb).symm
  rw [h, BitVec.add_right_inj] at hsum
  have hnat := congrArg BitVec.toNat hsum
  rw [BitVec.toNat_ofNat, BitVec.toNat_ofNat, Nat.mod_eq_of_lt (by omega), Nat.mod_eq_of_lt (by omega)] at hnat
  omega

/-- R152: the place of a record that is held. -/
theorem EventQueue.position_eq (hq : q.Lawful) (hrecords : q.records = older ++ r :: newer) (hr : r.sequence = n) :
    q.position n = some older.length := by
  have hthis : q.records[older.length]? = some r := by simp [hrecords]
  rw [EventQueue.position, List.findIdx?_eq_some_iff_getElem]
  refine ⟨(List.getElem?_eq_some_iff.mp hthis).1, ?_, fun j hj hmatch => ?_⟩
  · rw [(List.getElem?_eq_some_iff.mp hthis).2]
    simpa using hr
  · have hjlt : j < q.records.length := hj.trans (List.getElem?_eq_some_iff.mp hthis).1
    have := hq.sequence_inj (List.getElem?_eq_getElem hjlt) hthis (by rw [hr]; simpa using hmatch)
    omega

/-- R152: a sequence number that no record has. -/
theorem EventQueue.position_none (h : ∀ r ∈ q.records, r.sequence ≠ n) : q.position n = none := by
  simpa [EventQueue.position, List.findIdx?_eq_none_iff] using h

/-- R152: an acknowledgement of a record that is held. -/
theorem ackEventsBody_held (hq : s.queue.Lawful) (hrecords : s.queue.records = older ++ r :: newer)
    (hr : r.sequence = n) : ackEventsBody n s =
      if r.fetched then done (s.putQueue (s.queue.acknowledge older.length))
        (ackBytes (older.length + 1) (s.queue.acknowledge older.length))
      else refuse s .notFetched := by
  have hthis : s.queue.records[older.length]? = some r := by simp [hrecords]
  simp only [ackEventsBody, EventQueue.position_eq hq hrecords hr, hthis]

/-- R147, R152: what the acknowledgement of a record leaves. -/
theorem EventQueue.acknowledge_at (hq : q.Lawful) (hrecords : q.records = older ++ r :: newer) :
    q.acknowledge older.length =
      if q.lostTally = 0 then { q with records := newer }
      else { records := newer ++ [⟨q.nextSequence, .lost q.lostTally, 1, false⟩]
             nextSequence := q.nextSequence + 1, lostTally := 0 } := by
  have hdrop : q.records.drop (older.length + 1) = newer := by simp [hrecords]
  rw [EventQueue.acknowledge_eq hq (by simp [hrecords]), hdrop]

/-- Settles O41: FETCH_EVENTS shows and marks the oldest records; ACK_EVENTS finds the one place of its sequence number, and
removes through it. -/
theorem fetchMarksAndAckRemoves : Obligations.FetchMarksAndAckRemoves := by
  refine fun s => ⟨fun n hone height htake => ?fetch, fun n hready hq => ?ack⟩
  case fetch =>
    intro shown
    have hbody : fetchEventsBody n s = done (s.putQueue (s.queue.markFetched n.toNat)) (fetchBytes shown) :=
      if_neg (by omega)
    have hframe := congrArg Answer.state hbody
    exact ⟨_, runCommand_of_exempt htake rfl, State.answered_answeredBy nofun hbody hframe,
      congrArg (fun a : Answer => a.state.queue) hbody, State.answeredBy_eq (fetchEventsBody_frame n s)⟩
  case ack =>
    have hframe := ackEventsBody_frame n s
    refine ⟨_, runCommand_of_readyFor hready, fun habsent => ?absent, fun older r newer hrecords hr =>
      ⟨fun hfetched => ?unfetched, fun hfetched => ?removed⟩, State.answeredBy_eq hframe⟩
    case absent =>
      have hbody : ackEventsBody n s = refuse s .noSuchRecord := by
        simp only [ackEventsBody, EventQueue.position_none habsent]
      exact ⟨State.answered_answeredBy nofun hbody hframe, congrArg (fun a : Answer => a.state.queue) hbody⟩
    case unfetched =>
      have hbody := (ackEventsBody_held hq hrecords hr).trans (if_neg (by simp [hfetched]))
      exact ⟨State.answered_answeredBy nofun hbody hframe, congrArg (fun a : Answer => a.state.queue) hbody⟩
    case removed =>
      have hbody := (ackEventsBody_held hq hrecords hr).trans (if_pos hfetched)
      rw [EventQueue.acknowledge_at hq hrecords] at hbody
      constructor
      · intro htally
        rw [if_pos htally] at hbody
        exact ⟨congrArg (fun a : Answer => a.state.queue) hbody, State.answered_answeredBy nofun hbody hframe⟩
      · intro htally
        rw [if_neg htally] at hbody
        refine ⟨congrArg (fun a : Answer => a.state.queue) hbody, ?_⟩
        have hbytes : ackBytes (older.length + 1) ⟨newer ++ [⟨s.queue.nextSequence, .lost s.queue.lostTally, 1, false⟩],
            s.queue.nextSequence + 1, 0⟩
            = BitVec.ofNat 8 (older.length + 1) :: 1 :: bytesOf 2 s.queue.nextSequence.toNat := by simp [ackBytes]
        rw [hbytes] at hbody
        exact State.answered_answeredBy nofun hbody hframe

end Sys2Proof.Machine

/-! The Command Unit's commands: ABORT and the four long commands. -/

namespace Sys2Proof.Machine

set_option Elab.async false

variable {s : State}

/-! ### ABORT -/

/-- R185: what ABORT does, by the long command that runs. -/
theorem abort_judges (hready : s.readyFor .abort) :
    ∃ t, exec .abort s = .next t
      ∧ (s.long.kind = .none → Answered s t 0x74 .noLongCommand [] ∧ t.long = s.long)
      ∧ (s.long.kind = .sweep → Answered s t 0x74 .notAbortable [] ∧ t.long = s.long)
      ∧ (s.long.kind = .purge ∨ s.long.kind = .reown →
          Answered s t 0x74 .done [] ∧ t.long = { s.long with abortRequested := true })
      ∧ t = { s with long := t.long, port := t.port, passedOn := t.passedOn } := by
  have hframe := abortBody_frame s
  refine ⟨_, runCommand_of_readyFor hready, fun hkind => ?none, fun hkind => ?sweep, fun hkind => ?walk,
    State.answeredBy_eq hframe⟩
  case none =>
    have hbody : abortBody s = refuse s .noLongCommand := by simp only [abortBody, hkind]
    exact ⟨State.answered_answeredBy nofun hbody hframe, congrArg (fun a : Answer => a.state.long) hbody⟩
  case sweep =>
    have hbody : abortBody s = refuse s .notAbortable := by simp only [abortBody, hkind]
    exact ⟨State.answered_answeredBy nofun hbody hframe, congrArg (fun a : Answer => a.state.long) hbody⟩
  case walk =>
    have hbody : abortBody s = done (s.putLong { s.long with abortRequested := true }) := by
      rcases hkind with hkind | hkind <;> simp only [abortBody, hkind]
    exact ⟨State.answered_answeredBy nofun hbody hframe, congrArg (fun a : Answer => a.state.long) hbody⟩

/-- R187: the end of a long command, field by field. -/
theorem State.endLong_eq (s : State) (c : DoneCommand) (r : Completion) : s.endLong c r = { s with
    long := { s.long with kind := .none }, queue := (s.raise (.commandDone c r s.long.affected)).queue } := by
  rw [State.endLong, State.raise_eq_of s (t := s.putLong s.long.ended) rfl rfl]
  rfl

/-- Settles O43: ABORT by `abort_judges`; and once an abort is requested, the walk's end in place of its next step. -/
theorem abortEndsTheWalk : Obligations.AbortEndsTheWalk := by
  refine fun s => ⟨abort_judges, fun habort => ⟨fun hkind => ⟨?purgeEnd, ?purgeStep⟩, fun hkind => ⟨?reownEnd, ?reownStep⟩⟩⟩
  case purgeEnd =>
    change execWalkEndAborted s = _
    simp only [execWalkEndAborted, habort, hkind, if_true, State.endLong_eq]
  case reownEnd =>
    change execWalkEndAborted s = _
    simp only [execWalkEndAborted, habort, hkind, if_true, State.endLong_eq]
  case purgeStep => exact dif_neg (by simp [habort])
  case reownStep => exact dif_neg (by simp [habort])

/-! ### The long commands -/

/-- R172: a long command whose arguments are in order is accepted while none runs, and is BUSY otherwise. -/
theorem longCommand_judged {c : Command} {i : Instr} {body : State → Answer} {effect : State → State} {long : LongOp}
    {sweep : Sweep} (hready : s.readyFor i) (hc : c ≠ .repeatReply) (hbody : body s = acceptLong s effect)
    (heffect : effect s = { s with long := long, sweep := sweep }) :
    ∃ t, runCommand c i body s = .next t
      ∧ (s.long.kind = .none → Answered s t c.code .accepted [] ∧ t.long = long ∧ t.sweep = sweep)
      ∧ (s.long.kind ≠ .none → Answered s t c.code .busy [] ∧ t.long = s.long ∧ t.sweep = s.sweep)
      ∧ t = { s with long := t.long, sweep := t.sweep, port := t.port, passedOn := t.passedOn } := by
  refine ⟨_, runCommand_of_readyFor hready, fun hkind => ?accepted, fun hkind => ?busy, ?frame⟩
  case accepted =>
    have h : body s = accept { s with long := long, sweep := sweep } := by
      rw [hbody, acceptLong, if_pos hkind, heffect]
    exact ⟨State.answered_answeredBy hc h (congrArg Answer.state h), congrArg (fun a : Answer => a.state.long) h,
      congrArg (fun a : Answer => a.state.sweep) h⟩
  case busy =>
    have h : body s = refuse s .busy := by rw [hbody, acceptLong, if_neg hkind]
    exact ⟨State.answered_answeredBy hc h (congrArg Answer.state h), congrArg (fun a : Answer => a.state.long) h,
      congrArg (fun a : Answer => a.state.sweep) h⟩
  case frame =>
    have hstate : (body s).state = { s with long := (body s).state.long, sweep := (body s).state.sweep } := by
      rw [hbody, acceptLong, heffect]
      split <;> rfl
    exact State.answeredBy_eq hstate

/-- Settles O44: each body is an acceptance with its own effect. -/
theorem longCommandsAreAcceptedOneAtATime : Obligations.LongCommandsAreAcceptedOneAtATime := by
  intro s cold accepted
  refine ⟨fun wf of ks hks hready => ?purge, fun source target wf hne hready => ?reown, fun hready => ?sweepNow,
    fun hready => ?restart⟩
  case purge =>
    have hbody : purgeBody (filterByte wf) (filterByte of) (kindSetByte ks) s = acceptLong s fun s => s.putLong
        { LongOp.cold with kind := .purge, windowFilter := wf, ownerFilter := of, kindSet := some ks } := by
      simp only [purgeBody, filterArg_filterByte, kindSetArg_kindSetByte hks]
    exact longCommand_judged (c := .purge) hready nofun hbody rfl
  case reown =>
    have hbody : reownBody (indexByte source) (indexByte target) (filterByte wf) s = acceptLong s fun s => s.putLong
        { LongOp.cold with kind := .reown, windowFilter := wf, source := some source, target := some target } := by
      simp only [reownBody, indexArg_indexByte, filterArg_filterByte, hne, if_false]
    exact longCommand_judged (c := .reown) hready nofun hbody rfl
  case sweepNow => exact longCommand_judged (c := .sweepNow) hready nofun rfl rfl
  case restart => exact longCommand_judged (c := .restart) hready nofun rfl rfl

end Sys2Proof.Machine

/-! The check byte: R197's shifts lose nothing, so that two remainders that differ stay different. -/

namespace Sys2Proof.Machine

set_option Elab.async false

/-- The shift of R197 backwards: bit 0 tells whether 0x07 was exclusive-ORed in. -/
def crcUnshift (r : Byte) : Byte :=
  if r.getLsbD 0 then ((r ^^^ 0x07#8) >>> 1) ||| 0x80#8 else r >>> 1

theorem crcUnshift_crcShift : Function.LeftInverse crcUnshift crcShift := by
  unfold Function.LeftInverse
  decide

theorem crcShifts_injective (n : Nat) : Function.Injective (Nat.repeat crcShift n) := by
  induction n with
  | zero => exact Function.injective_id
  | succ n ih => exact crcUnshift_crcShift.injective.comp ih

theorem crcByte_inj_left {r r' b : Byte} (h : crcByte r b = crcByte r' b) : r = r' :=
  by
  simpa using crcShifts_injective 8 h

theorem crcByte_inj_right {r b b' : Byte} (h : crcByte r b = crcByte r b') : b = b' :=
  by
  simpa using crcShifts_injective 8 h

/-- R197: a remainder exclusive-ORed with itself stays 0 through the eight shifts. -/
theorem crcByte_self (r : Byte) : crcByte r r = 0 := by
  unfold crcByte
  rw [BitVec.xor_self]
  decide

/-- Remainders that agree after the same bytes agreed before them. -/
theorem foldl_crcByte_inj (bs : List Byte) {r r' : Byte} (h : bs.foldl crcByte r = bs.foldl crcByte r') : r = r' := by
  induction bs generalizing r r' with
  | nil => exact h
  | cons b bs ih => exact crcByte_inj_left (ih h)

theorem crc8_append (as bs : List Byte) : crc8 (as ++ bs) = bs.foldl crcByte (crc8 as) := by
  unfold crc8
  exact List.foldl_append

/-- Settles O50: a byte is taken into the remainder by an injective map of the two, and a remainder taken into itself
gives 0. -/
theorem checkByteDetectsOneWrongByte : Obligations.CheckByteDetectsOneWrongByte := by
  refine fun bs => ⟨?_, fun a b before after h => ?_⟩
  · rw [crc8_append]
    exact crcByte_self (crc8 bs)
  · rw [crc8_append, crc8_append] at h
    exact crcByte_inj_right (foldl_crcByte_inj after h)

end Sys2Proof.Machine

/-! The bytes of numbers and images, read back. -/

namespace Sys2Proof

set_option Elab.async false

/-- The bytes of a number, behind those of another, spell it modulo their range. -/
theorem foldl_bytesOf (n x acc : Nat) :
    (bytesOf n x).foldl (fun x b => x * 256 + b.toNat) acc = acc * 256 ^ n + x % 256 ^ n := by
  induction n generalizing acc with
  | zero => simp [bytesOf, Nat.mod_one]
  | succ n ih =>
    rw [bytesOf, List.foldl_cons, ih, BitVec.toNat_ofNat, Nat.mod_pow_succ (b := 256)]
    change (acc * 256 + x / 256 ^ n % 256) * _ + _ = _
    generalize x / 256 ^ n % 256 = d
    ring

theorem natOf_bytesOf (n x : Nat) : natOf (bytesOf n x) = x % 256 ^ n := by
  unfold natOf
  rw [foldl_bytesOf, Nat.zero_mul, Nat.zero_add]

/-- A word that `n` bytes can hold is read back from them. -/
theorem ofNat_natOf_bytesOf {w : Nat} (n : Nat) (x : BitVec w) (h : 2 ^ w ≤ 256 ^ n) :
    BitVec.ofNat w (natOf (bytesOf n x.toNat)) = x := by
  rw [natOf_bytesOf, Nat.mod_eq_of_lt (x.isLt.trans_le h), BitVec.ofNat_toNat, BitVec.setWidth_eq]

theorem ofNat_natOf_bytesOf_two (x : BitVec 16) : BitVec.ofNat 16 (natOf (bytesOf 2 x.toNat)) = x :=
  ofNat_natOf_bytesOf 2 x (by decide)

theorem ofNat_natOf_bytesOf_three (x : BitVec 24) : BitVec.ofNat 24 (natOf (bytesOf 3 x.toNat)) = x :=
  ofNat_natOf_bytesOf 3 x (by decide)

theorem ofNat_natOf_bytesOf_four (x : BitVec 32) : BitVec.ofNat 32 (natOf (bytesOf 4 x.toNat)) = x :=
  ofNat_natOf_bytesOf 4 x (by decide)

theorem ofNat_natOf_bytesOf_five (x : BitVec 40) : BitVec.ofNat 40 (natOf (bytesOf 5 x.toNat)) = x :=
  ofNat_natOf_bytesOf 5 x (by decide)

theorem WindowMode.code_lt (m : WindowMode) : m.code < 4 := by cases m <;> decide

theorem WindowMode.ofCode_of_mod {m : WindowMode} {n : Nat} (h : n % 4 = m.code) : WindowMode.ofCode n = m := by
  unfold WindowMode.ofCode
  rw [h]
  cases m <;> rfl

theorem EntryKind.code_lt (k : EntryKind) : k.code < 4 := by cases k <;> decide

theorem EntryKind.ofCode_of_mod {k : EntryKind} {n : Nat} (h : n % 4 = k.code) : EntryKind.ofCode n = k := by
  unfold EntryKind.ofCode
  rw [h]
  cases k <;> rfl

theorem Style.of_flag (x : Style) : (if x = .loud then Style.loud else .quiet) = x := by cases x <;> rfl

theorem FullAction.of_flag (x : FullAction) : (if x = .refuse then FullAction.refuse else .passUnowned) = x := by
  cases x <;> rfl

theorem OutsideAction.of_flag (x : OutsideAction) : (if x = .refuse then OutsideAction.refuse else .pass) = x := by
  cases x <;> rfl

/-- R199: byte 0 of a window image gives back the mode and each flag. -/
theorem windowFlags (mode : Fin 4) (b7 b4 b3 b2 b1 b0 : Bool) :
    let b := BitVec.ofNat 8
      (flagAt 7 b7 + 32 * mode.val + flagAt 4 b4 + flagAt 3 b3 + flagAt 2 b2 + flagAt 1 b1 + flagAt 0 b0)
    b[7] = b7 ∧ b.toNat / 32 % 4 = mode.val ∧ b[4] = b4 ∧ b[3] = b3 ∧ b[2] = b2
      ∧ b[1] = b1 ∧ b[0] = b0 := by
  decide +revert

/-- R199: byte 0 of an entry image gives back the kind, each flag and the age. -/
theorem entryFlags (kind : Fin 4) (b5 b4 b3 : Bool) (age : BitVec 3) :
    let b := BitVec.ofNat 8 (64 * kind.val + flagAt 5 b5 + flagAt 4 b4 + flagAt 3 b3 + age.toNat)
    b.toNat / 64 % 4 = kind.val ∧ b[5] = b5 ∧ b[4] = b4 ∧ b[3] = b3
      ∧ BitVec.ofNat 3 b.toNat = age := by
  decide +revert

/-- R199: byte 1 of an entry image gives back the window and the owner. -/
theorem entryParties (w o : Fin 16) :
    let k := BitVec.ofNat 8 (16 * w.val + o.val)
    Fin.ofNat 16 (k.toNat / 16) = w ∧ Fin.ofNat 16 k.toNat = o := by
  simp only [BitVec.toNat_ofNat, Fin.ext_iff, Fin.val_ofNat]
  omega

/-- R199: byte 0 of an outside image gives back its two flags. -/
theorem outsideFlags (b1 b0 : Bool) :
    let b := BitVec.ofNat 8 (flagAt 1 b1 + flagAt 0 b0)
    b[1] = b1 ∧ b[0] = b0 := by
  decide +revert

/-- R199: the bytes of a window image, with what its flag byte says. -/
theorem WindowImage.bytes_eq (m : WindowImage) :
    ∃ b : Byte, m.bytes = b :: m.exponent :: m.ageLimit
        :: (bytesOf 5 m.base.toNat ++ bytesOf 3 m.size.toNat ++ bytesOf 4 m.fill.toNat)
      ∧ b[7] = m.enabled ∧ b.toNat / 32 % 4 = m.mode.code ∧ b[4] = (m.style == .loud) ∧ b[3] = m.learnStrict
      ∧ b[2] = (m.fullAction == .refuse) ∧ b[1] = m.reportLearning ∧ b[0] = m.reportRelease :=
  ⟨_, rfl, windowFlags ⟨m.mode.code, m.mode.code_lt⟩ ..⟩

theorem WindowImage.ofBytes_bytes (m : WindowImage) : WindowImage.ofBytes m.bytes = m := by
  obtain ⟨b, hbytes, h7, hmode, h4, h3, h2, h1, h0⟩ := m.bytes_eq
  simp [WindowImage.ofBytes, hbytes, List.drop_append, List.drop_of_length_le, List.take_of_length_le, h7, h4, h3, h2, h1, h0,
    WindowMode.ofCode_of_mod hmode, Style.of_flag, FullAction.of_flag, ofNat_natOf_bytesOf_five,
    ofNat_natOf_bytesOf_three, ofNat_natOf_bytesOf_four]

/-- R199: the bytes of an entry image, with what its flag byte and its byte of parties say. -/
theorem EntryImage.bytes_eq (m : EntryImage) :
    ∃ b k : Byte, m.bytes = b :: k :: (bytesOf 3 m.granule.toNat ++ bytesOf 2 m.share.toNat
        ++ (BitVec.ofNat 8 m.claimSlot.toNat :: bytesOf 2 m.index.toNat))
      ∧ (b.toNat / 64 % 4 = m.kind.code ∧ b[5] = m.strict ∧ b[4] = m.touched ∧ b[3] = m.pending
        ∧ BitVec.ofNat 3 b.toNat = m.age)
      ∧ Fin.ofNat 16 (k.toNat / 16) = m.window ∧ Fin.ofNat 16 k.toNat = m.owner :=
  ⟨_, _, rfl, entryFlags ⟨m.kind.code, m.kind.code_lt⟩ .., entryParties ..⟩

/-- R199: bytes behind an entry image do not reach its fields. -/
theorem EntryImage.ofBytes_bytes_append (m : EntryImage) (bs : List Byte) : EntryImage.ofBytes (m.bytes ++ bs) = m := by
  obtain ⟨b, k, hbytes, ⟨hkind, h5, h4, h3, hage⟩, hwindow, howner⟩ := m.bytes_eq
  have hslot : BitVec.ofNat 5 (m.claimSlot.toNat % 256) = m.claimSlot := by
    rw [Nat.mod_eq_of_lt (m.claimSlot.isLt.trans (by decide)), BitVec.ofNat_toNat, BitVec.setWidth_eq]
  simp [-Fin.ofNat_eq_cast, EntryImage.ofBytes, hbytes, List.drop_append, List.drop_of_length_le,
    List.getElem?_append, h5, h4, h3, hage, hwindow, howner, hslot, EntryKind.ofCode_of_mod hkind,
    ofNat_natOf_bytesOf_three, ofNat_natOf_bytesOf_two]

theorem EntryImage.ofBytes_bytes (m : EntryImage) : EntryImage.ofBytes m.bytes = m := by
  simpa using m.ofBytes_bytes_append []

/-- R199: the bytes of an outside image, with what its flag byte says. -/
theorem OutsideImage.bytes_eq (m : OutsideImage) :
    ∃ b : Byte, m.bytes = b :: bytesOf 4 m.fill.toNat
      ∧ b[1] = (m.action == .refuse) ∧ b[0] = (m.style == .loud) :=
  ⟨_, rfl, outsideFlags ..⟩

theorem OutsideImage.ofBytes_bytes (m : OutsideImage) : OutsideImage.ofBytes m.bytes = m := by
  obtain ⟨b, hbytes, h1, h0⟩ := m.bytes_eq
  simp [OutsideImage.ofBytes, hbytes, List.take_of_length_le, h1, h0, OutsideAction.of_flag, Style.of_flag,
    ofNat_natOf_bytesOf_four]

end Sys2Proof

/-! The frames of the management commands, read back. -/

namespace Sys2Proof

set_option Elab.async false

theorem Command.ofCode_code (c : Command) : Command.ofCode c.code = some c := by
  cases c <;> rfl

/-- R198: only as many argument bytes as the code asks for spell a command. -/
theorem length_of_decodeArgs {c : Command} {bs : List Byte} {i : Instr} (h : decodeArgs c bs = some i) :
    bs.length = c.argBytes := by
  unfold decodeArgs at h
  split at h
  next hlen => exact hlen
  next => cases h

/-- R198: the argument bytes of a management command's frame spell that command. -/
theorem decodeArgs_of_frameOf {i : Instr} {c : Command} {bs : List Byte} (h : frameOf i = some (c, bs)) :
    decodeArgs c bs = some i := by
  cases i
  case setWindow | setOutside | insertEntry | updateEntry =>
    obtain ⟨rfl, rfl⟩ := Prod.mk.inj (Option.some.inj h)
    simp [decodeArgs, Command.argBytes, WindowImage.ofBytes_bytes, OutsideImage.ofBytes_bytes, EntryImage.ofBytes_bytes,
      EntryImage.ofBytes_bytes_append]
  case loadBudget | deleteEntry | findEntry | readEntry | setTimers | ackEvents =>
    obtain ⟨rfl, rfl⟩ := Prod.mk.inj (Option.some.inj h)
    simp [decodeArgs, Command.argBytes, List.take_of_length_le, List.drop_append, ofNat_natOf_bytesOf_two,
      ofNat_natOf_bytesOf_three, ofNat_natOf_bytesOf_four]
  case enableWindow | readWindow | setGate | setGateConfig | readGate | readCounters | fetchEvents | status | repeatReply
      | abort | purge | reown | sweepNow | restart =>
    obtain ⟨rfl, rfl⟩ := Prod.mk.inj (Option.some.inj h)
    rfl
  all_goals cases h

/-- Settles O49: the codes differ, and numbers and images are read back from their bytes. -/
theorem frameBytesSpellTheirCommand : Obligations.FrameBytesSpellTheirCommand := fun i c bs h =>
  have hdecode : decodeArgs c bs = some i := decodeArgs_of_frameOf h
  ⟨c.ofCode_code, length_of_decodeArgs hdecode, hdecode⟩

end Sys2Proof

/-! Bits and bytes on MDI: the frame receiver while a frame comes in. -/

namespace Sys2Proof.Machine

set_option Elab.async false

variable {s : State} {b : Bool} {bits : List Bool} {c : Command} {received : List Byte}

/-- The state with the receiver moved on by an SCK cycle in which the part drives 1. -/
def State.moved (s : State) (r : Receiver) : State := s.putPort { s.port with mdo := some true, receiver := r }

@[simp] theorem State.moved_receiver (s : State) (r : Receiver) : (s.moved r).port.receiver = r := rfl
@[simp] theorem State.moved_selHigh (s : State) (r : Receiver) : (s.moved r).port.selHigh = s.port.selHigh := rfl
@[simp] theorem State.moved_moved (s : State) (r r' : Receiver) : (s.moved r).moved r' = s.moved r' := rfl

theorem arrive_of_lt (h : bits.length < 7) : arrive bits b = .inl (bits ++ [b]) := by
  simp [arrive, h]

theorem arrive_of_seven (h : bits.length = 7) : arrive bits b = .inr (byteOf (bits ++ [b])) := by
  simp [arrive, h]

theorem byteOf_bitsOf (x : Byte) : byteOf (bitsOf x) = x := by
  decide +revert

theorem Port.takeCode_of_command {p : Port} {c : Command} {code : Byte} (h : Command.ofCode code = some c) :
    p.takeCode code = { p with receiver := if c.argBytes = 0 then .check c [] [] else .arguments c [] [] } := by
  simp only [Port.takeCode, h]

theorem Port.takeCode_of_unknown {p : Port} {code : Byte} (h : Command.ofCode code = none) :
    p.takeCode code = { p.enterReply (some unknownReply) with replyMade := some unknownReply } := by
  simp only [Port.takeCode, h]

theorem exec_sckCycle_of_high (h : s.port.selHigh = true) : exec (.sckCycle b) s = .next s := by
  change execSckCycle b s = _
  rw [execSckCycle, if_pos h]

theorem exec_sckCycle_idle (h : s.port.receiver = .idle) : exec (.sckCycle b) s = .next s := by
  change execSckCycle b s = _
  simp [execSckCycle, h]

section Low
variable (hlow : s.port.selHigh = false)
include hlow

/-- R159: while SEL is low an SCK cycle does what the receiver's state says. -/
theorem exec_sckCycle_low :
    exec (.sckCycle b) s =
      let p := { s.port with mdo := some true }
      match s.port.receiver with
      | .idle => .next s
      | .code bits =>
        match arrive bits b with
        | .inl bits => .next (s.moved (.code bits))
        | .inr x => .next (s.putPort (p.takeCode x))
      | .arguments c received bits =>
        match arrive bits b with
        | .inl bits => .next (s.moved (.arguments c received bits))
        | .inr x => .next (s.putPort (p.takeArgument c received x))
      | .check c received bits =>
        match arrive bits b with
        | .inl bits => .next (s.moved (.check c received bits))
        | .inr x => .next ((s.putPort p).takeCheck c received x)
      | .replying phase => .next (s.putPort { p with mdo := some phase.clock.1, receiver := phase.clock.2 })
      | .trailing => .next (s.putPort p) := by
  change execSckCycle b s = _
  rw [execSckCycle, if_neg (by simp [hlow])]
  rfl

/-- R161: a bit inside the code byte. -/
theorem exec_sckCycle_code (hbits : bits.length < 7) (h : s.port.receiver = .code bits) :
    exec (.sckCycle b) s = .next (s.moved (.code (bits ++ [b]))) := by
  rw [exec_sckCycle_low hlow]
  simp only [h, arrive_of_lt hbits]

/-- R161: a bit inside an argument byte. -/
theorem exec_sckCycle_arguments (hbits : bits.length < 7) (h : s.port.receiver = .arguments c received bits) :
    exec (.sckCycle b) s = .next (s.moved (.arguments c received (bits ++ [b]))) := by
  rw [exec_sckCycle_low hlow]
  simp only [h, arrive_of_lt hbits]

/-- R162: a bit inside the check byte. -/
theorem exec_sckCycle_check (hbits : bits.length < 7) (h : s.port.receiver = .check c received bits) :
    exec (.sckCycle b) s = .next (s.moved (.check c received (bits ++ [b]))) := by
  rw [exec_sckCycle_low hlow]
  simp only [h, arrive_of_lt hbits]

/-- R161: a whole code byte of a command. -/
theorem exec_sckCycle_code_full (hbits : bits.length = 7) (h : s.port.receiver = .code bits)
    (hcode : byteOf (bits ++ [b]) = c.code) :
    exec (.sckCycle b) s = .next (s.moved (if c.argBytes = 0 then .check c [] [] else .arguments c [] [])) := by
  rw [exec_sckCycle_low hlow]
  simp only [h, arrive_of_seven hbits, Port.takeCode_of_command (hcode ▸ c.ofCode_code)]
  rfl

/-- R164: a whole code byte that names no command. -/
theorem exec_sckCycle_code_unknown (hbits : bits.length = 7) (h : s.port.receiver = .code bits)
    (hcode : Command.ofCode (byteOf (bits ++ [b])) = none) :
    exec (.sckCycle b) s = .next (s.putPort
      { { s.port with mdo := some true }.enterReply (some unknownReply) with replyMade := some unknownReply }) := by
  rw [exec_sckCycle_low hlow]
  simp only [h, arrive_of_seven hbits, Port.takeCode_of_unknown hcode]

/-- R161: a whole argument byte. -/
theorem exec_sckCycle_arguments_full (hbits : bits.length = 7) (h : s.port.receiver = .arguments c received bits) :
    exec (.sckCycle b) s = .next (s.moved (if c.argBytes ≤ received.length + 1
      then .check c (received ++ [byteOf (bits ++ [b])]) [] else .arguments c (received ++ [byteOf (bits ++ [b])]) [])) := by
  rw [exec_sckCycle_low hlow]
  simp only [h, arrive_of_seven hbits, Port.takeArgument, List.length_append, List.length_singleton]
  rfl

/-- R162: a whole check byte. -/
theorem exec_sckCycle_check_full (hbits : bits.length = 7) (h : s.port.receiver = .check c received bits) :
    exec (.sckCycle b) s
      = .next ((s.putPort { s.port with mdo := some true }).takeCheck c received (byteOf (bits ++ [b]))) := by
  rw [exec_sckCycle_low hlow]
  simp only [h, arrive_of_seven hbits]

theorem exec_sckCycle_replying {phase : ReplyPhase} (h : s.port.receiver = .replying phase) :
    exec (.sckCycle b) s
      = .next (s.putPort { s.port with mdo := some phase.clock.1, receiver := phase.clock.2 }) := by
  rw [exec_sckCycle_low hlow]
  simp only [h]

theorem exec_sckCycle_trailing (h : s.port.receiver = .trailing) : exec (.sckCycle b) s = .next (s.moved .trailing) := by
  rw [exec_sckCycle_low hlow]
  simp only [h]
  rfl

end Low

theorem exec_selFall_of_idle (h : s.port.selHigh = true) (hidle : s.port.receiver = .idle) :
    exec .selFall s = .next (s.putPort { s.port with selHigh := false, mdo := some true, receiver := .code [] }) := by
  change execSelFall s = _
  simp only [execSelFall, h, hidle, if_true]

theorem exec_selFall_of_low (h : s.port.selHigh = false) : exec .selFall s = .next s := by
  change execSelFall s = _
  simp [execSelFall, h]

theorem exec_selRise_of_high (h : s.port.selHigh = true) : exec .selRise s = .next s := by
  change execSelRise s = _
  simp [execSelRise, h]

/-- R165: a rise of SEL ends the frame, and what it records is told by where the frame was cut short. -/
theorem exec_selRise_of_low (h : s.port.selHigh = false) :
    exec .selRise s = .next { s with
      port := { s.port with selHigh := true, mdo := none, receiver := .idle }
      queue := s.port.receiver.cutShort.elim s.queue fun f => (s.raise (.frameFault f)).queue } := by
  change execSelRise s = _
  rw [execSelRise, if_neg (by simp [h])]
  cases s.port.receiver.cutShort with
  | none => rfl
  | some f =>
    simp only []
    rw [State.raise_eq, State.raise_queue_congr s]
    all_goals rfl

/-- Settles O45: each line event, by the receiver's state. -/
theorem frameReceiverFollowsTheLines : Obligations.FrameReceiverFollowsTheLines := by
  intro s b
  refine ⟨exec_selFall_of_idle, exec_selFall_of_low, exec_selRise_of_high, fun hlow => ?_, ?_, fun hlow bits => ⟨?_, ?_⟩,
    exec_sckCycle_trailing⟩
  · refine ⟨_, exec_selRise_of_low hlow, rfl, fun b bits h => ?_, ?_, ?_, rfl⟩
    · simp only [h]
      rfl
    · rintro ⟨c, received, bits, h | h⟩ <;> (simp only [h]; rfl)
    · rintro (h | h | ⟨p, h⟩ | h) <;> (simp only [h]; rfl)
  · rintro (hhigh | hidle)
    · exact exec_sckCycle_of_high hhigh
    · exact exec_sckCycle_idle hidle
  · exact fun hbits => ⟨exec_sckCycle_code hlow hbits, fun c received =>
      ⟨exec_sckCycle_arguments hlow hbits, exec_sckCycle_check hlow hbits⟩⟩
  · refine fun hbits c => ⟨exec_sckCycle_code_full hlow hbits, fun received h => ⟨fun hless => ?_, fun hlast => ?_⟩⟩
    · rw [exec_sckCycle_arguments_full hlow hbits h, if_neg (by omega)]
      rfl
    · rw [exec_sckCycle_arguments_full hlow hbits h, if_pos hlast.ge]
      rfl

end Sys2Proof.Machine

/-! Frames that no command takes. -/

namespace Sys2Proof.Machine

set_option Elab.async false

/-- R164: a code byte that names no command, completed by the row UNKNOWN_COMMAND from the bits that begin it. -/
theorem exec_unknownCommand_of_begun {s : State} {code : Byte} {bits : List Bool} (hcode : Command.ofCode code = none)
    (h : s.port.receiver = .code bits) (hbits : bits <+: bitsOf code) :
    exec (.unknownCommand code) s = .next (s.putPort
      { { s.port with mdo := some true }.enterReply (some unknownReply) with replyMade := some unknownReply }) := by
  change execUnknownCommand code s = _
  simp only [execUnknownCommand, hcode, h, List.isPrefixOf_iff_prefix.mpr hbits, if_true, Port.takeCode_of_unknown hcode]

theorem exec_checkMismatch_of_known {s : State} {code : Byte} {c : Command} (hcode : Command.ofCode code = some c)
    (h : s.canTake (.badCheck code) = true) :
    exec (.checkMismatch code) s = .next (s.fixReply ⟨.badCheck, []⟩ (some code)) := by
  change execCheckMismatch code s = _
  rw [execCheckMismatch, if_pos (by simp [h, hcode])]

/-- Settles O46: an unknown code is taken with its eighth bit, and a frame whose check fails takes the reply BAD_CHECK. -/
theorem unknownAndMismatchedFramesAreAnswered : Obligations.UnknownAndMismatchedFramesAreAnswered := by
  refine fun s code => ⟨fun hcode hlow => ⟨fun bits b h hbits => ?_, fun bits rest h hbits => ?_⟩, fun c hcode h => ?_⟩
  · have hseven : bits.length = 7 := by simpa [bitsOf] using congrArg List.length hbits
    have hbyte : byteOf (bits ++ [b]) = code := by rw [hbits, byteOf_bitsOf]
    exact ⟨_, exec_sckCycle_code_unknown hlow hseven h (hbyte ▸ hcode), rfl, rfl, rfl, rfl, hlow, rfl⟩
  · exact ⟨_, exec_unknownCommand_of_begun hcode h ⟨rest, hbits⟩, rfl, rfl, rfl, rfl, hlow, rfl⟩
  · exact ⟨_, exec_checkMismatch_of_known hcode h, answered_fixReply rfl rfl _ _ _, s.fixReply_eq _ _⟩

end Sys2Proof.Machine

/-! Whole frames on MDI. -/

namespace Sys2Proof.Machine

set_option Elab.async false

variable {s : State} {c : Command}

theorem clockIn_cons (x : Byte) (bs : List Byte) : clockIn (x :: bs) = (bitsOf x).map .sckCycle ++ clockIn bs := by
  simp [clockIn]

theorem clockIn_nil : clockIn [] = [] := rfl

theorem execAll_cons_of_next {i : Instr} {is : List Instr} {t : State} (h : exec i s = .next t) :
    execAll (i :: is) s = execAll is t := by
  rw [execAll, h]

/-- R159: a receiver that collects bits up to the seventh has a whole byte after eight SCK cycles. -/
theorem execAll_clockIn_byte {f : List Bool → Receiver} {t : State} {x : Byte} (bs : List Byte)
    (hlt : ∀ bits b, bits.length < 7 → exec (.sckCycle b) (s.moved (f bits)) = .next (s.moved (f (bits ++ [b]))))
    (hfull : ∀ bits b, bits.length = 7 → byteOf (bits ++ [b]) = x → exec (.sckCycle b) (s.moved (f bits)) = .next t) :
    execAll (clockIn (x :: bs)) (s.moved (f [])) = execAll (clockIn bs) t := by
  rw [clockIn_cons, bitsOf]
  iterate 7 rw [List.map_cons, List.cons_append, execAll_cons_of_next (hlt _ _ (by simp))]
  rw [List.map_cons, List.cons_append, execAll_cons_of_next (hfull _ _ rfl (byteOf_bitsOf x)), List.map_nil, List.nil_append]

/-- R161: where the receiver stands in the frame of a command, between two bytes. -/
def awaits (c : Command) (received : List Byte) : Receiver :=
  if c.argBytes ≤ received.length then .check c received [] else .arguments c received []

section Low
variable (hlow : s.port.selHigh = false)
include hlow

theorem execAll_clockIn_code (bs : List Byte) :
    execAll (clockIn (c.code :: bs)) (s.moved (.code [])) = execAll (clockIn bs) (s.moved (awaits c [])) := by
  refine execAll_clockIn_byte bs (fun bits b h => exec_sckCycle_code hlow h rfl) fun bits b h hx => ?_
  rw [exec_sckCycle_code_full (s := s.moved _) hlow h rfl hx, awaits]
  simp

theorem execAll_clockIn_arguments (as bs : List Byte) (received : List Byte) (h : received.length + as.length = c.argBytes) :
    execAll (clockIn (as ++ bs)) (s.moved (awaits c received))
      = execAll (clockIn bs) (s.moved (.check c (received ++ as) [])) := by
  induction as generalizing received with
  | nil =>
    have hall : c.argBytes ≤ received.length := h.ge
    rw [awaits, if_pos hall, List.append_nil, List.nil_append]
  | cons a as ih =>
    have hmore : ¬ c.argBytes ≤ received.length := by simp at h; omega
    calc execAll (clockIn (a :: (as ++ bs))) (s.moved (awaits c received))
      _ = execAll (clockIn (as ++ bs)) (s.moved (awaits c (received ++ [a]))) := by
        rw [awaits, if_neg hmore]
        refine execAll_clockIn_byte _ (fun bits b h => exec_sckCycle_arguments hlow h rfl) fun bits b h hx => ?_
        rw [exec_sckCycle_arguments_full (s := s.moved _) hlow h rfl, hx, awaits, List.length_append,
          List.length_singleton, State.moved_moved]
      _ = execAll (clockIn bs) (s.moved (.check c ((received ++ [a]) ++ as) [])) := ih _ (by simp at h ⊢; omega)
      _ = _ := by rw [List.append_assoc, List.singleton_append]

theorem execAll_clockIn_check (received : List Byte) (x : Byte) :
    execAll (clockIn [x]) (s.moved (.check c received []))
      = .next ((s.putPort { s.port with mdo := some true }).takeCheck c received x) := by
  refine execAll_clockIn_byte [] (fun bits b h => exec_sckCycle_check hlow h rfl) fun bits b h hx => ?_
  rw [exec_sckCycle_check_full (s := s.moved _) hlow h rfl, hx]
  rfl

end Low

theorem checkFrame_of_frameOf {i : Instr} {bs : List Byte} (h : frameOf i = some (c, bs)) (x : Byte) :
    checkFrame c bs x = if x = crc8 (c.code :: bs) then .command i else .badCheck c.code := by
  simp only [checkFrame, decodeArgs_of_frameOf h]

/-- Settles O48: the code, the arguments one by one, and the check byte. -/
theorem framesArePassedOnWhenChecked : Obligations.FramesArePassedOnWhenChecked := by
  intro s i c bs check hframe hhigh hidle
  let u : State := s.putPort { s.port with selHigh := false }
  have hlen : bs.length = c.argBytes := length_of_decodeArgs (decodeArgs_of_frameOf hframe)
  calc execAll (.selFall :: clockIn (c.code :: (bs ++ [check]))) s
    _ = execAll (clockIn (c.code :: (bs ++ [check]))) (u.moved (.code [])) :=
      execAll_cons_of_next (exec_selFall_of_idle hhigh hidle)
    _ = execAll (clockIn (bs ++ [check])) (u.moved (awaits c [])) := execAll_clockIn_code rfl _
    _ = execAll (clockIn [check]) (u.moved (.check c bs [])) := execAll_clockIn_arguments rfl _ _ [] (by simpa using hlen)
    _ = .next ((u.putPort { u.port with mdo := some true }).takeCheck c bs check) := execAll_clockIn_check rfl _ _
    _ = _ := by
      simp only [State.takeCheck, checkFrame_of_frameOf hframe]
      rfl

end Sys2Proof.Machine

/-! Every command ends in a next state. -/

namespace Sys2Proof.Machine

set_option Elab.async false

variable {s : State}

/-- The outcome is a next state. -/
def Completes (o : Outcome) : Prop := ∃ t, o = .next t

theorem completes_next (t : State) : Completes (.next t) := ⟨t, rfl⟩

/-- A management command that cannot be taken leaves the state, and one that is taken is answered. -/
theorem runCommand_completes (c : Command) (i : Instr) (body : State → Answer) (s : State) :
    Completes (runCommand c i body s) := by
  rcases runCommand_cases c i body s with ⟨-, hr⟩ | ⟨-, a, -, hr⟩ <;> exact ⟨_, hr⟩

theorem execDownstreamResponse_completes (tag : SlotNo) (status : RespStatus) (data : List Byte) (s : State) :
    Completes (execDownstreamResponse tag status data s) := by
  unfold execDownstreamResponse
  split
  · cases status <;> exact completes_next _
  all_goals exact completes_next _

theorem execSckCycle_completes (b : Bool) (s : State) : Completes (execSckCycle b s) := by
  unfold execSckCycle
  split
  · exact completes_next _
  · simp only []
    split
    case h_2 | h_3 | h_4 => split <;> exact completes_next _
    all_goals exact completes_next _

/-- A happening of the table that is no management command changes the state in one way or another by its conditions. -/
theorem exec_completes_of_happening {i : Instr} (h : frameOf i = none) (s : State) : Completes (exec i s) := by
  cases i
  case coldReset => exact completes_next _
  case downstreamResponse => exact execDownstreamResponse_completes ..
  case sckCycle => exact execSckCycle_completes ..
  case forcedTimeout | intervalTimerExpiry | sweepStep | purgeStep | reownStep | clearStep | resumeStep | selFall
      | checkMismatch | timerMillisecondBoundary =>
    simp only [exec, execForcedTimeout, execIntervalTimerExpiry, execSweepStep, execPurgeStep, execReownStep, execClearStep,
      execResumeStep, execSelFall, execCheckMismatch, execTimerMillisecondBoundary]
    split <;> exact completes_next _
  case presentRequest | send | deadlineExpiry | selRise | drainLimit | walkEndAborted | admission | departure
      | unknownCommand =>
    simp only [exec, execPresentRequest, execSend, execDeadlineExpiry, execSelRise, execDrainLimit, execWalkEndAborted,
      execAdmission, execDeparture, execUnknownCommand]
    (repeat' split) <;> exact completes_next _
  all_goals cases h

theorem exec_completes (i : Instr) (s : State) : Completes (exec i s) := by
  cases hframe : frameOf i with
  | some f =>
    obtain ⟨body, hexec, -⟩ := exec_body s i f.1 f.2 hframe
    exact hexec ▸ runCommand_completes ..
  | none => exact exec_completes_of_happening hframe s

/-- No command touches the queue of waiting commands. -/
theorem pending_not_touched (i : Instr) : Field.pending ∉ touched i := by
  cases i <;> simp [touched]

/-- Settles O2: no branch of a command's meaning stops the part, and none reaches the commands that wait. -/
theorem everyCommandCompletes : Obligations.EveryCommandCompletes := by
  intro c s
  obtain ⟨t, h⟩ := exec_completes c s
  exact ⟨t, h, exec_same h (pending_not_touched c)⟩

end Sys2Proof.Machine

/-! Replies on MDO. -/

namespace Sys2Proof.Machine

set_option Elab.async false

/-- R163: the bit that a receiver at its reply drives in an SCK cycle, and where it stands after it. -/
def Receiver.driven : Receiver → Bool × Receiver
  | .replying phase => phase.clock
  | r => (true, r)

/-- Whether the receiver has reached its reply. -/
def Receiver.inReply : Receiver → Bool
  | .replying _ => true
  | .trailing => true
  | _ => false

/-- R163: the filler bits still to be driven before the start byte of a reply that is ready. -/
def fillerBits (owed bit : Nat) : Nat := 8 * (if bit = 0 then owed else max owed 1) - bit

/-- R163: the bits that a ready reply has still to drive. -/
def Receiver.owes : Receiver → List Bool
  | .replying (.filler owed bit (some r)) => List.replicate (fillerBits owed bit) true ++ r.bytes.flatMap bitsOf
  | .replying (.sending bits) => bits
  | _ => []

/-- The first `n` bits of a line that drives these bits and then 1. -/
def thenOnes (bits : List Bool) (n : Nat) : List Bool := (bits ++ List.replicate n true).take n

theorem thenOnes_succ (bits : List Bool) (n : Nat) :
    thenOnes bits (n + 1) = bits.headD true :: thenOnes bits.tail n := by
  cases bits with
  | nil => simp [thenOnes, List.replicate_succ]
  | cons b bits =>
    have hmin : min (n - bits.length) (n + 1) = min (n - bits.length) n := by omega
    simp only [thenOnes, List.cons_append, List.take_succ_cons, List.take_append, List.take_replicate, hmin, List.headD_cons,
      List.tail_cons]

theorem thenOnes_nil (n : Nat) : thenOnes [] n = List.replicate n true := by
  simp [thenOnes]

theorem fillerBits_eq_zero {owed bit : Nat} (h : bit < 8) : fillerBits owed bit = 0 ↔ owed = 0 ∧ bit = 0 := by
  unfold fillerBits
  split <;> omega

/-- R163: each filler bit driven leaves one fewer. -/
theorem fillerBits_succ {owed bit : Nat} (h : bit < 8) (hmore : owed ≠ 0 ∨ bit ≠ 0) :
    fillerBits owed bit = fillerBits (if bit = 7 then owed - 1 else owed) (if bit = 7 then 0 else bit + 1) + 1 := by
  unfold fillerBits
  by_cases hlast : bit = 7
  · subst hlast
    simp only [if_true, Nat.reduceEqDiff, if_false]
    omega
  · simp only [hlast, if_false, Nat.add_eq_zero_iff, one_ne_zero, and_false]
    split <;> omega

/-- R163: an SCK cycle drives the first bit that is owed, or 1 where none is, and the rest stay owed. -/
theorem ReplyPhase.clock_owes {phase : ReplyPhase} (h : (Receiver.replying phase).Lawful) :
    phase.clock.1 = (Receiver.replying phase).owes.headD true
      ∧ phase.clock.2.owes = (Receiver.replying phase).owes.tail := by
  match phase with
  | .sending [] => exact ⟨rfl, rfl⟩
  | .sending [b] => exact ⟨rfl, rfl⟩
  | .sending (b :: b' :: rest) => exact ⟨rfl, rfl⟩
  | .filler owed bit none =>
    rw [ReplyPhase.clock_filler (.inr (.inr rfl))]
    exact ⟨rfl, rfl⟩
  | .filler owed bit (some r) =>
    have hbit : bit < 8 := h
    by_cases hmore : owed ≠ 0 ∨ bit ≠ 0
    · rw [ReplyPhase.clock_filler (hmore.imp id .inl)]
      simp only [Receiver.owes, fillerBits_succ hbit hmore, List.replicate_succ]
      exact ⟨rfl, rfl⟩
    · push Not at hmore
      obtain ⟨rfl, rfl⟩ := hmore
      rw [ReplyPhase.clock_start]
      exact ⟨rfl, rfl⟩

variable {s : State}

theorem exec_sckCycle_inReply {b : Bool} (hlow : s.port.selHigh = false) (h : s.port.receiver.inReply = true) :
    exec (.sckCycle b) s = .next (s.putPort { s.port with
      mdo := some s.port.receiver.driven.1, receiver := s.port.receiver.driven.2 }) := by
  cases hr : s.port.receiver with
  | replying phase => exact exec_sckCycle_replying hlow hr
  | trailing => exact exec_sckCycle_trailing hlow hr
  | idle | code | arguments | check => simp [hr, Receiver.inReply] at h

/-- R163: a reply runs to its end, whether or not it is ready yet. -/
theorem ReplyPhase.clock_inReply (phase : ReplyPhase) : phase.clock.2.inReply = true := by
  match phase with
  | .sending [] => rfl
  | .sending [b] => rfl
  | .sending (b :: b' :: rest) => rfl
  | .filler owed bit ready =>
    by_cases hfiller : owed ≠ 0 ∨ bit ≠ 0 ∨ ready = none
    · rw [ReplyPhase.clock_filler hfiller]
      rfl
    · push Not at hfiller
      obtain ⟨rfl, rfl, hready⟩ := hfiller
      obtain ⟨r, rfl⟩ := Option.ne_none_iff_exists'.mp hready
      rw [ReplyPhase.clock_start]
      rfl

theorem Receiver.driven_inReply {r : Receiver} (h : r.inReply = true) : r.driven.2.inReply = true := by
  cases r with
  | replying phase => exact phase.clock_inReply
  | trailing => rfl
  | idle | code | arguments | check => cases h

theorem Receiver.driven_spec {r : Receiver} (h : r.inReply = true) (hr : r.Lawful) :
    r.driven.1 = r.owes.headD true ∧ r.driven.2.owes = r.owes.tail ∧ r.driven.2.Lawful := by
  cases r with
  | replying phase =>
    obtain ⟨hbit, howes⟩ := ReplyPhase.clock_owes hr
    exact ⟨hbit, howes, (ReplyPhase.clock_spec hr).1⟩
  | trailing => exact ⟨rfl, rfl, trivial⟩
  | idle | code | arguments | check => cases h

/-- R163: MDO drives what is owed, and then 1. -/
theorem mdoBits_inReply (mdi : List Bool) (hlow : s.port.selHigh = false) (h : s.port.receiver.inReply = true)
    (hr : s.port.receiver.Lawful) : mdoBits mdi s = (thenOnes s.port.receiver.owes mdi.length).map some := by
  induction mdi generalizing s with
  | nil => rfl
  | cons b mdi ih =>
    obtain ⟨hbit, howes, hlaw⟩ := Receiver.driven_spec h hr
    rw [mdoBits, exec_sckCycle_inReply hlow h, List.length_cons, thenOnes_succ, ← hbit, ← howes]
    exact congrArg (_ :: ·) (ih hlow (Receiver.driven_inReply h) hlaw)

theorem execAll_completes (is : List Instr) (s : State) : Completes (execAll is s) := by
  induction is generalizing s with
  | nil => exact completes_next s
  | cons i is ih =>
    obtain ⟨t, h⟩ := exec_completes i s
    rw [execAll_cons_of_next h]
    exact ih t

/-- R163: SCK cycles move only the receiver and MDO while a reply leaves. -/
theorem execAll_inReply (mdi : List Bool) (hlow : s.port.selHigh = false) (h : s.port.receiver.inReply = true) :
    ∃ mdo receiver, execAll (mdi.map .sckCycle) s
      = .next (s.putPort { s.port with mdo := mdo, receiver := receiver }) := by
  induction mdi generalizing s with
  | nil => exact ⟨_, _, rfl⟩
  | cons b mdi ih =>
    rw [List.map_cons, execAll_cons_of_next (exec_sckCycle_inReply hlow h)]
    exact ih hlow (Receiver.driven_inReply h)

theorem Receiver.inReply_iff {r : Receiver} : r.inReply = true ↔ (∃ p, r = .replying p) ∨ r = .trailing := by
  cases r <;> simp [Receiver.inReply]

/-- Settles O47: each SCK cycle drives the next bit that is owed. -/
theorem repliesAreClockedOut : Obligations.RepliesAreClockedOut := by
  refine fun s mdi hlow => ⟨?_, fun owed bit hbit h => ?_, fun owed bit reply hbit h => ?_⟩
  · obtain ⟨t, hrun⟩ := execAll_completes (mdi.map .sckCycle) s
    refine ⟨t, hrun, fun hreply => ?_⟩
    obtain ⟨mdo, receiver, hmoved⟩ := execAll_inReply mdi hlow (Receiver.inReply_iff.mpr hreply)
    obtain rfl := Host.Outcome.next.inj (hrun.symm.trans hmoved)
    rfl
  · rw [mdoBits_inReply mdi hlow (h ▸ rfl) (h ▸ hbit), h]
    simp [Receiver.owes, thenOnes_nil]
  · rw [mdoBits_inReply mdi hlow (h ▸ rfl) (h ▸ hbit), h]
    rfl

end Sys2Proof.Machine

/-! What is due in a tick, and in which order it is taken. -/

namespace Sys2Proof.Machine

set_option Elab.async false

variable {s : State} {k : SlotNo} {n : Nat}

/-- R192: RESTART runs, and its drain limit lies at or before time `n`. -/
def State.limitReached (s : State) (n : Nat) : Prop :=
  s.long.kind = .restart ∧ ∃ stop, s.long.stopTime = some stop ∧ stop + 10000 ≤ n

/-- R192: the drain limit is reached by time `n`, and drain forcing is still to be turned on. -/
def State.limitDue (s : State) (n : Nat) : Prop :=
  s.limitReached n ∧ s.long.drainForcing = false ∧ ∃ k, s.slot k ≠ .free ∧ ∀ a, s.slot k ≠ .orphaned a

/-- R119: the drain limit, reached by time `n`, forces the timeout of this slot. -/
def State.forcedBy (s : State) (n : Nat) (k : SlotNo) : Prop :=
  s.limitReached n ∧ s.long.drainForcing = true ∧ ∃ a link d, s.slot k = .outstanding a link d

/-- R118: this slot's deadline has run out by time `n`. -/
def Slot.pastDeadline (x : Slot) (n : Nat) : Prop := ∃ a link d, x = .outstanding a link (some d) ∧ d ≤ n

theorem State.limitReached_iff : s.limitReached n ↔ s.restarting = true ∧ s.limitBy n = true := by
  rw [State.restarting_iff, ← Bool.not_eq_false, State.limitBy_eq_false]
  simp [State.limitReached]

theorem State.limitDue_iff : s.limitDue n ↔ s.drainLimitDue n = true := by
  rw [State.limitDue, State.limitReached_iff, ← State.drainComplete_eq_false]
  simp only [State.drainLimitDue, Bool.and_eq_true, Bool.not_eq_true']
  tauto

theorem State.forcedBy_iff :
    s.forcedBy n k ↔ (s.restarting && s.long.drainForcing && s.limitBy n) = true ∧ (s.slot k).isOutstanding = true := by
  rw [State.forcedBy, State.limitReached_iff, ← Slot.isOutstanding_iff]
  simp only [Bool.and_eq_true]
  tauto

theorem Slot.pastDeadline_iff {x : Slot} : x.pastDeadline n ↔ x.expiredBy n = true := by
  rw [← Bool.not_eq_false, Slot.expiredBy_eq_false]
  simp [Slot.pastDeadline]

/-- R119: the forced timeouts are taken from the lowest slot upward. -/
theorem State.forcedSlot_of_lowest (hk : s.forcedBy n k) (hlowest : ∀ j, j < k → ¬ s.forcedBy n j) :
    s.forcedSlot n = some k := by
  obtain ⟨hforcing, hslot⟩ := State.forcedBy_iff.mp hk
  rw [State.forcedSlot, if_pos hforcing, find_finRange]
  exact ⟨hslot, fun j hj => Bool.not_eq_true _ ▸ fun h => hlowest j hj (State.forcedBy_iff.mpr ⟨hforcing, h⟩)⟩

theorem State.forcedSlot_of_none (h : ∀ j, ¬ s.forcedBy n j) : s.forcedSlot n = none := by
  rw [State.forcedSlot_eq_none]
  rintro hkind hforcing ⟨k, hslot⟩ stop hstop
  by_contra hreached
  exact h k ⟨⟨hkind, stop, hstop, not_lt.mp hreached⟩, hforcing, hslot⟩

/-- R118: the deadlines that have run out are taken from the lowest slot upward. -/
theorem State.expiredSlot_of_lowest (hk : (s.slot k).pastDeadline n) (hlowest : ∀ j, j < k → ¬ (s.slot j).pastDeadline n) :
    s.expiredSlot n = some k := by
  rw [State.expiredSlot, find_finRange]
  exact ⟨Slot.pastDeadline_iff.mp hk,
    fun j hj => Bool.not_eq_true _ ▸ fun h => hlowest j hj (Slot.pastDeadline_iff.mpr h)⟩

theorem State.expiredSlot_of_none (h : ∀ j, ¬ (s.slot j).pastDeadline n) : s.expiredSlot n = none := by
  rw [State.expiredSlot_eq_none]
  intro k a link d hslot
  by_contra hpast
  exact h k ⟨a, link, d, hslot, not_lt.mp hpast⟩

/-- R130: the timer's expiry is still to be taken, and the boundary it fell on lies at or before time `n`. -/
def State.timerDue (s : State) (n : Nat) : Prop :=
  s.sweep.expiryDue = true ∧ s.long.kind ≠ .restart ∧ s.sweep.boundary ≤ n

theorem State.timerDue_iff : s.timerDue n ↔ s.timerExpiryDue n = true := by
  rw [← Bool.not_eq_false, State.timerExpiryDue_eq_false]
  simp [State.timerDue]

section Order
variable (hlimit : ¬ s.limitDue n)
include hlimit

theorem State.drainLimitDue_of_not : s.drainLimitDue n = false :=
  Bool.not_eq_true _ ▸ fun h => hlimit (State.limitDue_iff.mpr h)

theorem State.dueBy_of_forced (h : s.forcedSlot n = some k) : s.dueBy n = some (.forcedTimeout k) := by
  simp [State.dueBy, State.drainLimitDue_of_not hlimit, h]

variable (hforced : s.forcedSlot n = none)
include hforced

theorem State.dueBy_of_expired (h : s.expiredSlot n = some k) : s.dueBy n = some (.deadlineExpiry k) := by
  simp [State.dueBy, State.drainLimitDue_of_not hlimit, hforced, h]

variable (hexpired : s.expiredSlot n = none)
include hexpired

/-- R128, R130: with no slot's timeout due, the interval timer's happenings remain. -/
theorem State.dueBy_of_no_slot : s.dueBy n =
    if s.timerExpiryDue n = true then some .intervalTimerExpiry
    else if s.sweep.boundary + 1000 ≤ n then some .timerMillisecondBoundary else none := by
  simp only [State.dueBy, State.drainLimitDue_of_not hlimit, hforced, hexpired, Bool.false_eq_true, if_false]
  rfl

end Order

theorem step_of_due {c : Instr} (hidle : s.pending = []) (h : s.dueBy s.now = some c) : step s = exec c s := by
  simp only [step, hidle, tick, h]

theorem step_of_nothing_due (hidle : s.pending = []) (h : s.dueBy s.now = none) :
    step s = .next (s.putNow (s.now + 1)) := by
  simp only [step, hidle, tick, h]

/-- Settles O1: what is due is searched for in one order, and the time moves on only where nothing is found. -/
theorem stepTakesFrontCommandOrTicks : Obligations.StepTakesFrontCommandOrTicks := by
  refine fun s => ⟨fun c rest h => by simp only [step, h], fun hidle => ⟨fun h => ?_, fun k hlimit hk hlowest => ?_,
    fun k hlimit hforced hk hlowest => ?_, fun hlimit hforced hexpired => ?_⟩⟩
  · have hdue : s.drainLimitDue s.now = true := State.limitDue_iff.mp h
    exact step_of_due hidle (if_pos hdue)
  · exact step_of_due hidle (State.dueBy_of_forced hlimit (State.forcedSlot_of_lowest hk hlowest))
  · exact step_of_due hidle
      (State.dueBy_of_expired hlimit (State.forcedSlot_of_none hforced) (State.expiredSlot_of_lowest hk hlowest))
  · have hdue := State.dueBy_of_no_slot hlimit (State.forcedSlot_of_none hforced) (State.expiredSlot_of_none hexpired)
    refine ⟨fun htimer => ?_, fun htimer hboundary => ?_, fun htimer hboundary => ?_⟩
    · exact step_of_due hidle (hdue.trans (if_pos (State.timerDue_iff.mp htimer)))
    · rw [if_neg (fun h => htimer (State.timerDue_iff.mpr h)), if_pos hboundary] at hdue
      exact step_of_due hidle hdue
    · rw [if_neg (fun h => htimer (State.timerDue_iff.mpr h)), if_neg (not_le.mpr hboundary)] at hdue
      exact step_of_nothing_due hidle hdue

end Sys2Proof.Machine

/-! Cold reset, and the state after reset. -/

namespace Sys2Proof.Machine

set_option Elab.async false

/-- Settles O3: the cold value of each block. -/
theorem coldResetRestoresColdValues : Obligations.ColdResetRestoresColdValues := fun _ =>
  ⟨_, rfl, State.lane_reset, rfl, State.window_reset, rfl, State.entry_reset, State.gate_reset, State.slot_reset,
    State.returnList_reset, rfl, rfl, rfl, ⟨rfl, rfl, rfl, rfl, rfl, rfl, rfl, rfl⟩, rfl, rfl, rfl, rfl, rfl, rfl, rfl, rfl,
    rfl, rfl, rfl, rfl, rfl, rfl⟩

theorem Window.cold_lawful : Window.cold.Lawful := by
  constructor <;> decide

theorem Gate.cold_lawful : Gate.cold.Lawful := by
  constructor <;> decide

theorem EventQueue.cold_lawful : EventQueue.cold.Lawful := by
  constructor <;> simp [EventQueue.cold]

theorem Sweep.cold_lawful (n : Nat) : (Sweep.cold n).Lawful := by
  constructor <;> simp [Sweep.cold]

/-- No window is enabled after reset. -/
theorem reset_windowsLawful : State.reset.WindowsLawful where
  each w := by simpa using Window.cold_lawful
  disjoint v w _ h := by simp [Window.cold] at h

/-- No entry holds a key after reset. -/
theorem reset_tableLawful : State.reset.TableLawful where
  inBucket e k h := by simp [Entry.key?] at h
  unique e e' k h := by simp [Entry.key?] at h
  belowSize e k h := by simp [Entry.key?] at h
  sharing e := by simp [Entry.ownerNotSharer]
  ages e := by simp [Entry.ageInRange]

theorem reset_ordersLawful : State.reset.OrdersLawful where
  listed i k := by simp [Slot.listedFor]
  listOnce i := by simp
  queued k := by
    rw [State.slot_reset]
    exact ⟨nofun, nofun⟩
  queueOnce := List.nodup_nil

theorem reset_linksLawful : State.reset.LinksLawful where
  bothEnds k e := by simp [Slot.link?, Entry.claimSlot?]
  ofWrites k e h := by simp [Slot.link?] at h

/-- No long command runs after reset. -/
theorem reset_longLawful : State.reset.LongLawful := by
  constructor <;> simp [State.reset, LongOp.cold]

/-- No slot is occupied, and the first millisecond boundary is still to come. -/
theorem reset_timesLawful : State.reset.TimesLawful where
  deadlines k a link d h := by simp at h
  boundary := Nat.zero_le _
  expiry := nofun
  limit := nofun
  forced := nofun

theorem reset_portLawful : State.reset.PortLawful where
  receiver := trivial
  idle _ := rfl
  awaited := nofun

/-- Settles O4: the cold value of each block is lawful. -/
theorem resetIsColdAndLawful : Obligations.ResetIsColdAndLawful :=
  ⟨rfl, rfl, rfl, rfl, {
    lanes := fun i r h => by simp at h
    windows := reset_windowsLawful
    table := reset_tableLawful
    gates := fun i => by simpa using Gate.cold_lawful
    orders := reset_ordersLawful
    links := reset_linksLawful
    queue := EventQueue.cold_lawful
    sweep := Sweep.cold_lawful 0
    long := reset_longLawful
    times := reset_timesLawful
    port := reset_portLawful }⟩

end Sys2Proof.Machine
